-- ==== Sys2Proof/Word.lean ====
section
/-!
DEFINITION. The word types of the LX8 model: bytes of the serial lines, points on the time base, lane numbers and
key positions.
-/

namespace Sys2Proof

/-- One byte of the host link, of a scanner line or of a stored character (R43, R172). -/
abbrev Byte := BitVec 8

/-- A value of the time base, or a point on it: a wrapping count of milliseconds (R191). -/
abbrev Time := BitVec 32

/-- A lane number, 0 to 7 (00_scope.md, Conventions). -/
abbrev LaneId := Fin 8

/-- A key position, 0 to 127: row times 16 plus column (00_scope.md, Conventions). -/
abbrev KeyPos := Fin 128

/-- An index into the code rule table, 0 to 15 (R63). -/
abbrev RuleIdx := Fin 16

/-- A settle milestone index, 0 to 7 (R4). -/
abbrev Milestone := Fin 8

/-- A set of the lane flags A to D, bit 0 being A (R190, "flag set"). -/
abbrev FlagSet := BitVec 4

/-- A set of the seven release tests, bit 0 being KEY_OPERATE (R190, "test set"). -/
abbrev TestSet := BitVec 7

end Sys2Proof
end

