-- ==== Sys2Proof/Syntax.lean ====
section
/-!
DEFINITION. The commands of the LX8: one constructor for each row of spec/opcode_table.json, with the row's operands.
Requests carry the tag and the field bytes of R190 as the host sends them, so that a refused or clamped field is an
operand like any other; the events of a lane carry the lane.
-/

namespace Sys2Proof

/-- The level of a scanner line SRXn: mark at rest, space when broken (R51). -/
inductive LineLevel where
  | mark
  | space
  deriving DecidableEq, Repr

/-- The level of a sense switch line DSNn: low is closed, high is open (R108). -/
inductive Sense where
  | closed
  | opened
  deriving DecidableEq, Repr

/-- The level of a rate strap (R172). -/
inductive Strap where
  | low
  | high
  deriving DecidableEq, Repr

/-- The fields of a LANECFG payload from the settle requirement on, as sent (R190). -/
structure LaneCfgFields where
  settle : Byte
  rows : Byte
  cols : Byte
  period : Byte
  debounce : Byte
  typDelay : BitVec 16
  typPeriod : BitVec 16
  releaseKey : Byte
  rate : BitVec 32
  gap : Byte
  pulse : Byte
  confirm : BitVec 16
  deriving DecidableEq, Repr

/-- The fields of a LANESET payload from confirm tones on, as sent (R190). -/
structure LaneSetFields where
  confirmTones : Byte
  inhibitOpen : Byte
  strict : Byte
  valueLimit : BitVec 32
  dupWindow : BitVec 16
  quota : Byte
  high : Byte
  low : Byte
  openLong : BitVec 16
  hostMask : Byte
  keyMask : Byte
  consume : Byte
  modes : Vector Byte 8
  counterMode : Byte
  interval : Byte
  priority : Byte
  deriving DecidableEq, Repr

/-- The fields of a RULE payload from active on, as sent (R190). -/
structure RuleFields where
  active : Byte
  cls : Byte
  minLen : Byte
  maxLen : Byte
  patLen : Byte
  pattern : Vector Byte 8
  check : Byte
  valuePresent : Byte
  start : Byte
  count : Byte
  scale : Byte
  action : Byte
  tag : Byte
  deriving DecidableEq, Repr

/-- The commands. Docstrings name the row and its rule; the operands of a request are its tag, its lane byte and its
field bytes in the order of R190. -/
inductive Instr where
  /-- IDENT (R182). -/
  | ident (tag : Byte)
  /-- STATUS of a lane (R183). -/
  | statusLane (tag lane : Byte)
  /-- STATUS of the device, lane byte 0xFF (R184). -/
  | statusDevice (tag : Byte)
  /-- LANECFG with write 0 (R185). -/
  | laneCfgRead (tag lane : Byte)
  /-- LANECFG with write 1 (R185). -/
  | laneCfgWrite (tag lane : Byte) (fields : LaneCfgFields)
  /-- LANESET with write 0 (R186). -/
  | laneSetRead (tag lane : Byte)
  /-- LANESET with write 1 (R186, R187). -/
  | laneSetWrite (tag lane : Byte) (fields : LaneSetFields)
  /-- KEYMAP (R20). -/
  | keymap (tag lane first count attr : Byte)
  /-- RULE (R64). -/
  | rule (tag index : Byte) (fields : RuleFields)
  /-- RULEQ (R66). -/
  | ruleQ (tag index : Byte)
  /-- POWER on (R2). -/
  | powerOn (tag lane : Byte)
  /-- POWER off (R2). -/
  | powerOff (tag lane : Byte)
  /-- FETCH with lane byte 0xFF (R152, R153). -/
  | fetchAny (tag maximum : Byte)
  /-- FETCH of a named lane (R154). -/
  | fetchLane (tag lane maximum : Byte)
  /-- RELEASE (R114). -/
  | release (tag lane : Byte)
  /-- FLAGS (R111). -/
  | flags (tag lane setList clearList : Byte)
  /-- INHIBIT on (R58). -/
  | inhibitOn (tag lane : Byte)
  /-- INHIBIT off (R58). -/
  | inhibitOff (tag lane : Byte)
  /-- TONE (R62). -/
  | tone (tag lane tone : Byte)
  /-- COUNTS (R145). -/
  | counts (tag lane clear : Byte)
  /-- CHECK start (R162). -/
  | checkStart (tag lane duration : Byte)
  /-- CHECK stop (R169). -/
  | checkStop (tag lane : Byte)
  /-- CHECK insert (R168). -/
  | checkInsert (tag lane : Byte)
  /-- UNLOCK (R128). -/
  | unlock (tag : Byte)
  /-- CLRFAULT (R120). -/
  | clrFault (tag lane : Byte)
  /-- RESTART (R189). -/
  | restart (tag : Byte)
  /-- A character arrives on HRX (R175). -/
  | hostByteArrival (byte : Byte) (stopError : Bool)
  /-- The gap timer of the host link expires (R176). -/
  | hostGapExpiry
  /-- The last byte of the head reply leaves HTX (R178). -/
  | replySent
  /-- The device reset that a RESTART asked for (R189). -/
  | restartReset
  /-- The supply rises (R188). -/
  | powerOnReset
  /-- VDD has stood for 1 ms; the straps show these levels (R188, R172). -/
  | powerOnResetEnd (rate1 rate0 : Strap)
  /-- RST is asserted (R188). -/
  | rstAssert
  /-- RST is released; the straps show these levels (R188, R172). -/
  | rstRelease (rate1 rate0 : Strap)
  /-- PFLn is asserted (R7). -/
  | pflAssert (lane : LaneId)
  /-- The settle timer expires (R4). -/
  | settleExpiry (lane : LaneId)
  /-- A chain read completes; bit p of `raw` says that position p read closed (R18). -/
  | sampleArrival (lane : LaneId) (raw : BitVec 128)
  /-- The typematic timer expires (R33). -/
  | typematicExpiry (lane : LaneId)
  /-- A byte arrives on SRXn (R45 to R49). -/
  | scannerByteArrival (lane : LaneId) (byte : Byte) (stopError : Bool)
  /-- The valid BCC of the frame in assembly arrives (R49). -/
  | frameCompletion (lane : LaneId)
  /-- The character gap timer expires (R48). -/
  | scannerGapExpiry (lane : LaneId)
  /-- SRXn changes to this level (R51). -/
  | srxLevelChange (lane : LaneId) (level : LineLevel)
  /-- A break character arrives on SRXn (R51). -/
  | breakCharacter (lane : LaneId)
  /-- The break timer expires (R51, R52). -/
  | breakTimerExpiry (lane : LaneId)
  /-- A scanner command frame finishes transmission (R53). -/
  | commandSent (lane : LaneId)
  /-- DSNn changes to this level (R108). -/
  | dsnChange (lane : LaneId) (level : Sense)
  /-- The sense stability timer expires (R108). -/
  | senseStabilityExpiry (lane : LaneId)
  /-- The pulse timer expires (R117). -/
  | pulseExpiry (lane : LaneId)
  /-- DOCn is asserted (R119). -/
  | docAssert (lane : LaneId)
  /-- The confirm timer expires (R122). -/
  | confirmExpiry (lane : LaneId)
  /-- The open-long timer expires (R123). -/
  | openLongExpiry (lane : LaneId)
  /-- LKD is asserted (R127). -/
  | lkdAssert
  /-- LKD is deasserted (R127). -/
  | lkdDeassert
  /-- The report timer expires (R143). -/
  | reportTimerExpiry (lane : LaneId)
  /-- The duplicate window expires (R77). -/
  | duplicateWindowExpiry (lane : LaneId)
  /-- A check byte completes transmission (R163). -/
  | checkByteSent (lane : LaneId)
  /-- A byte returns on SRXn during a check (R165, R166). -/
  | checkByteArrival (lane : LaneId) (byte : Byte) (stopError : Bool)
  /-- The check timer expires (R169). -/
  | checkTimerExpiry (lane : LaneId)
  /-- PFLn is deasserted (R7). -/
  | pflDeassert (lane : LaneId)
  deriving DecidableEq, Repr

end Sys2Proof
end

