-- ==== Sys2Proof/WellFormed.lean ====
section
/-!
DEFINITION. Well-formed commands. A request row names one form of a request, so its operands must be those of that form:
the lane byte 0xFF belongs to STATUS_DEVICE and FETCH_ANY (R177 step 5), not to the rows that name a lane. Every other
operand value is a command, since the part itself refuses or clamps it (R180).
-/

namespace Sys2Proof

/-- The lane byte that stands for the device in STATUS and for ANY in FETCH (R177, R190). -/
def anyLaneByte : Byte := 0xFF#8

/-- The command is one its row stands for. -/
def Instr.wellFormed : Instr → Bool
  | .statusLane _ lane => lane != anyLaneByte
  | .fetchLane _ lane _ => lane != anyLaneByte
  | .ident _ | .statusDevice _ | .laneCfgRead _ _ | .laneCfgWrite _ _ _ | .laneSetRead _ _ | .laneSetWrite _ _ _
  | .keymap _ _ _ _ _ | .rule _ _ _ | .ruleQ _ _ | .powerOn _ _ | .powerOff _ _ | .fetchAny _ _ | .release _ _
  | .flags _ _ _ _ | .inhibitOn _ _ | .inhibitOff _ _ | .tone _ _ _ | .counts _ _ _ | .checkStart _ _ _
  | .checkStop _ _ | .checkInsert _ _ | .unlock _ | .clrFault _ _ | .restart _ | .hostByteArrival _ _
  | .hostGapExpiry | .replySent | .restartReset | .powerOnReset | .powerOnResetEnd _ _ | .rstAssert
  | .rstRelease _ _ | .pflAssert _ | .settleExpiry _ | .sampleArrival _ _ | .typematicExpiry _
  | .scannerByteArrival _ _ _ | .frameCompletion _ | .scannerGapExpiry _ | .srxLevelChange _ _ | .breakCharacter _
  | .breakTimerExpiry _ | .commandSent _ | .dsnChange _ _ | .senseStabilityExpiry _ | .pulseExpiry _
  | .docAssert _ | .confirmExpiry _ | .openLongExpiry _ | .lkdAssert | .lkdDeassert | .reportTimerExpiry _
  | .duplicateWindowExpiry _ | .checkByteSent _ | .checkByteArrival _ _ _ | .checkTimerExpiry _ | .pflDeassert _ => true

end Sys2Proof
end

