-- ==== Sys2Proof/Config.lean ====
section
/-!
DEFINITION. What the part fixes: sizes, limits and the milestone table, and the one free value of the model.
-/

namespace Sys2Proof.Config

/-- Places of a lane queue (R85). -/
def queueSize : Nat := 32

/-- The queue count at which class A records are refused (R91). -/
def openLimit : Nat := 28

/-- Code slots of the pool (R97). -/
def poolSize : Nat := 96

/-- Places of the down list (R26). -/
def downListSize : Nat := 6

/-- Entries of a scanner command queue (R53). -/
def commandQueueSize : Nat := 4

/-- Tones that may wait behind the head of a scanner command queue (R54). -/
def waitingToneLimit : Nat := 3

/-- Data characters a scanner frame may carry (R45). -/
def maxCodeLength : Nat := 48

/-- Entries of a line check's sent window and comparison history (R161). -/
def windowSize : Nat := 16

/-- Matches in a row that lock a line check (R165). -/
def lockRun : Nat := 8

/-- Mismatches among the history that lose the lock (R166). -/
def lossMismatches : Nat := 4

/-- Seed of a line check's sequence register (R162). -/
def checkSeed : BitVec 16 := 0xACE1#16

/-- Reply buffers of the host link (R178). -/
def replyBuffers : Nat := 2

/-- The gap timer of the host link, in ms (R175). -/
def hostGap : Nat := 10

/-- The break time of a scanner line, in ms (R51). -/
def breakTime : Nat := 100

/-- The stability time of the drawer sense, in ms (R108). -/
def senseTime : Nat := 20

/-- Time of each settle milestone after PENn is asserted, in ms (R4). -/
def milestoneTimes : Vector Nat 8 := #v[5, 10, 20, 50, 100, 200, 500, 1000]

/-- FREE VALUE (Log 7). R161 gives each byte tally of a line check the range 0 to 4,294,967,295 and says neither that
it wraps nor that it saturates: what a raise past the top leaves is this value of the running index, which nothing
constrains. -/
opaque tallyPastTop : LaneId → Nat → BitVec 32

end Sys2Proof.Config
end

