-- ==== Sys2Proof/Machine/State.lean ====
section
/-!
DEFINITION. The state of the LX8 as plain data: the blocks of a lane, the device-wide blocks, the pins, the queue of
waiting commands, and the machine right after reset. Each field cites the rule of spec/ that gives it.
-/

namespace Sys2Proof.Machine

/-! ### Lane power (chapter 1) -/

/-- The lane states of R1. -/
inductive LaneState where
  | off
  | settling
  | on
  | tripped
  deriving DecidableEq, Repr

/-- The lane power controller (R1). `pen` is the output PENn (R3, R15). -/
structure PowerCtl where
  state : LaneState
  progress : Option Milestone
  start : Option Time
  timer : Option Time
  pen : Bool
  deriving DecidableEq, Repr

/-! ### Key matrix scanner (chapter 2) -/

/-- The keylock positions (R35). -/
inductive Keylock where
  | off
  | operate
  | manager
  | training
  deriving DecidableEq, Repr

/-- The keymap attributes (R19); the four keylock attributes name the keylock position they drive. -/
inductive KeyAttr where
  | normal
  | repeating
  | unused
  | keylock (position : Keylock)
  deriving DecidableEq, Repr

/-- The mark of a key that is down and not in the down list (R27). -/
inductive KeyMark where
  | none
  | unreported
  | blocked
  deriving DecidableEq, Repr

/-- One key position: its debounced state, its disagreement counter and its mark (R22, R27). -/
structure KeyCell where
  down : Bool
  count : Nat
  mark : KeyMark
  deriving DecidableEq, Repr

/-- A running typematic timer: its expiry point and the position it serves (R32). -/
structure Typematic where
  point : Time
  pos : KeyPos
  deriving DecidableEq, Repr

/-- The key matrix scanner (R22, R26, R27, R32, R35, R40). `nextSample` is the time of the next sample arrival that the
schedule of R18 gives, none while the lane is not sampled. -/
structure KeyScanner where
  cells : Vector KeyCell 128
  downList : List KeyPos
  keylock : Keylock
  typematic : Option Typematic
  ghost : Bool
  rollover : Bool
  keylockFault : Bool
  nextSample : Option Time
  deriving DecidableEq, Repr

/-! ### Scanner port (chapter 3) -/

/-- The class of a scanner frame (R45). -/
inductive CodeClass where
  | numeric
  | alpha
  deriving DecidableEq, Repr

/-- A code: its class and its characters in order (00_scope.md, Terms; R49). -/
structure Code where
  cls : CodeClass
  chars : List Byte
  deriving DecidableEq, Repr

/-- The receiver states of a scanner port (R45). -/
inductive RxState where
  | idle
  | inFrame
  | awaitBcc
  deriving DecidableEq, Repr

/-- The receive assembly (R45). `breakPending` says that a break character left the frame pending with its gap timer
held (R48, R51). -/
structure Receiver where
  state : RxState
  cls : Option CodeClass
  chars : List Byte
  gap : Option Time
  breakPending : Bool
  deriving DecidableEq, Repr

/-- The level SRXn has held since its last change, and the time of that change (R51). -/
structure LineHold where
  level : LineLevel
  since : Time
  deriving DecidableEq, Repr

/-- The break detector (R51). `held` is none until a level has been seen after entering ON. -/
structure BreakDetector where
  absent : Bool
  held : Option LineHold
  timer : Option Time
  deriving DecidableEq, Repr

/-- The enable state a scanner is told: 'E' or 'D' (R53, R55). -/
inductive Enable where
  | enabled
  | disabled
  deriving DecidableEq, Repr

/-- A confirm tone: 'G' or 'B' (R54). -/
inductive Tone where
  | good
  | bad
  deriving DecidableEq, Repr

/-- An entry of the scanner command queue (R53). -/
inductive ScanCmd where
  | enable (e : Enable)
  | tone (t : Tone)
  deriving DecidableEq, Repr

/-- The disable-reason set (R57). -/
structure Reasons where
  host : Bool
  flow : Bool
  drawer : Bool
  check : Bool
  deriving DecidableEq, Repr

/-- The scanner port (R45, R51, R53, R57). The head of `cmds` is being transmitted; `lineState` is the last 'E' or 'D'
whose transmission has started. -/
structure ScannerPort where
  rx : Receiver
  brk : BreakDetector
  cmds : List ScanCmd
  lineState : Option Enable
  reasons : Reasons
  deriving DecidableEq, Repr

/-! ### Code checker and duplicate filter (chapter 4) -/

/-- The class field of a code rule (R63). -/
inductive RuleClass where
  | numeric
  | alpha
  | any
  deriving DecidableEq, Repr

/-- The embedded value field of a code rule, when present: 1-based start, digit count and scale (R63). -/
structure ValueField where
  start : Nat
  count : Nat
  scale : Nat
  deriving DecidableEq, Repr

/-- One entry of the code rule table (R63). A pattern element `none` is "any". -/
structure CodeRule where
  active : Bool
  cls : RuleClass
  minLen : Nat
  maxLen : Nat
  pattern : List (Option Byte)
  mod10 : Bool
  value : Option ValueField
  reject : Bool
  tag : Fin 16
  deriving DecidableEq, Repr

/-- The duplicate filter (R77). -/
structure DupFilter where
  last : Option Code
  window : Option Time
  deriving DecidableEq, Repr

/-- The reasons of a REJECT record (R82). -/
inductive RejectReason where
  | noRule
  | rule
  | check
  | valueLimit
  deriving DecidableEq, Repr

/-- The value part of a SCAN record (R81). -/
structure ValuePart where
  value : Nat
  scale : Nat
  lookup : List Byte
  deriving DecidableEq, Repr

/-! ### Drawer (chapter 6) -/

/-- The drawer states (R107). -/
inductive DrawerState where
  | unsensed
  | closed
  | releasing
  | awaitOpen
  | opened
  | openLong
  deriving DecidableEq, Repr

/-- The events of a DRAWER record (R129). -/
inductive DrawerEvent where
  | initial
  | granted
  | refused
  | opened
  | notOpened
  | openLong
  | closed
  | forced
  deriving DecidableEq, Repr

/-- The source of a granted release (R116). -/
inductive ReleaseSource where
  | host
  | key
  deriving DecidableEq, Repr

/-- A running sense stability timer: its expiry point and the level it is timing (R107, R108). -/
structure Stability where
  point : Time
  level : Sense
  deriving DecidableEq, Repr

/-- The drawer controller (R107). `drv` is the output DRVn. -/
structure Drawer where
  state : DrawerState
  sense : Option Sense
  stability : Option Stability
  pulse : Option Time
  confirm : Option Time
  openLong : Option Time
  openStart : Option Time
  fault : Bool
  flags : FlagSet
  drv : Bool
  deriving DecidableEq, Repr

/-! ### Conditions and counters (chapter 7) -/

/-- The eight conditions, in condition order (R130). -/
inductive Condition where
  | scannerAbsent
  | scannerHeld
  | ghost
  | rollover
  | keylockFault
  | drawerLong
  | driverFault
  | counterFull
  deriving DecidableEq, Repr

/-- The report mode of a condition (R130). -/
inductive ReportMode where
  | off
  | rise
  | both
  deriving DecidableEq, Repr

/-- The six lane counters (R139). -/
structure Counters where
  good : Nat
  checkFail : Nat
  rejected : Nat
  duplicate : Nat
  overrun : Nat
  frameErr : Nat
  deriving DecidableEq, Repr

/-- The counter mode (R141). -/
inductive CounterMode where
  | manual
  | auto
  deriving DecidableEq, Repr

/-! ### Line check (chapter 9) -/

/-- The check state (R161). -/
inductive CheckState where
  | idle
  | hunt
  | locked
  deriving DecidableEq, Repr

/-- The end cause of a line check (R169). -/
inductive EndCause where
  | time
  | host
  | lane
  deriving DecidableEq, Repr

/-- The line checker (R161). `history` holds match as true; `sending` is the byte now on STXn (R163); `freeIdx` is the
model's own running index of free values (Log 7). -/
structure LineChecker where
  state : CheckState
  timer : Option Time
  reg : BitVec 16
  sent : List Byte
  run : Nat
  history : List Bool
  insert : Bool
  bytesSent : BitVec 32
  bytesMatched : BitVec 32
  mismatches : BitVec 32
  lockLosses : Nat
  sending : Option Byte
  freeIdx : Nat
  deriving DecidableEq, Repr

/-! ### Reply codes and lane records (chapters 5 and 10) -/

/-- The reply codes (R179). -/
inductive ReplyCode where
  | done
  | clamped
  | unknownKind
  | badLength
  | badLane
  | badField
  | laneActive
  | notReady
  | busy
  | denied
  | lockedDown
  | faulted
  | stillAsserted
  deriving DecidableEq, Repr

/-- The kind of a lane record with its own fields (R87). -/
inductive RecordBody where
  /-- KEY_DOWN: position and keylock position. -/
  | keyDown (pos : KeyPos) (keylock : Keylock)
  /-- KEY_REPEAT: position. -/
  | keyRepeat (pos : KeyPos)
  /-- SCAN: the code of its slot, rule index, tag, checked, training, value part with the lookup key of its slot. -/
  | scan (code : Code) (rule : Option RuleIdx) (tag : Fin 16) (checked training : Bool) (value : Option ValuePart)
  /-- REJECT: the code of its slot, reason, rule index. -/
  | reject (code : Code) (reason : RejectReason) (rule : Option RuleIdx)
  /-- KEY_UP: position. -/
  | keyUp (pos : KeyPos)
  /-- KEYLOCK: new keylock position. -/
  | keylock (position : Keylock)
  /-- DRAWER: event, state after it, source, reason with failing set, open duration. -/
  | drawer (event : DrawerEvent) (state : DrawerState) (source : Option ReleaseSource)
      (refusal : Option (ReplyCode × TestSet)) (duration : Option Time)
  /-- LANE: new lane state and settle progress. -/
  | lane (state : LaneState) (progress : Option Milestone)
  /-- CONDITION: condition and new live state. -/
  | condition (condition : Condition) (live : Bool)
  /-- COUNTS: the six counters and the report interval. -/
  | counts (counters : Counters) (interval : Nat)
  /-- CHECK: bytes sent, bytes matched, mismatches, lock losses, whether the final state is LOCKED, end cause. -/
  | check (sent matched mismatches : BitVec 32) (lockLosses : Nat) (locked : Bool) (cause : EndCause)
  deriving DecidableEq, Repr

/-- A lane record: the fields of R86 and the body of its kind. -/
structure LaneRecord where
  lane : LaneId
  seq : BitVec 16
  time : Time
  lost : Nat
  body : RecordBody
  deriving DecidableEq, Repr

/-- The lane queue (R85); the count is the length of `records`. -/
structure LaneQueue where
  records : List LaneRecord
  seq : BitVec 16
  loss : Nat
  held : Nat
  deriving DecidableEq, Repr

/-! ### Settings of a lane -/

/-- The static settings of a lane, the keymap apart (R12, R21, R43, R44, R110). -/
structure LaneCfg where
  settle : Milestone
  rows : Nat
  cols : Nat
  period : Nat
  debounce : Nat
  typDelay : Nat
  typPeriod : Nat
  releaseKey : Option KeyPos
  rate : Nat
  gap : Nat
  pulse : Nat
  confirm : Nat
  deriving DecidableEq, Repr

/-- The live settings of a lane (R59, R61, R75, R98, R102, R110, R131, R141, R156). -/
structure LaneSet where
  confirmTones : Bool
  inhibitOpen : Bool
  strict : Bool
  valueLimit : Nat
  dupWindow : Nat
  quota : Nat
  high : Nat
  low : Nat
  openLong : Nat
  hostMask : TestSet
  keyMask : TestSet
  consume : FlagSet
  modes : Vector ReportMode 8
  counterMode : CounterMode
  interval : Nat
  priority : Fin 4
  deriving DecidableEq, Repr

/-- The levels outside the part on a lane's inputs: PFLn asserted or not, SRXn, DSNn (R3, R7, R51, R108). -/
structure LanePins where
  pfl : Bool
  srx : LineLevel
  dsn : Sense
  deriving DecidableEq, Repr

/-- Everything one lane holds. -/
structure Lane where
  power : PowerCtl
  cfg : LaneCfg
  keymap : Vector KeyAttr 128
  set : LaneSet
  keys : KeyScanner
  port : ScannerPort
  filter : DupFilter
  queue : LaneQueue
  drawer : Drawer
  live : Vector Bool 8
  counters : Counters
  reportTimer : Option Time
  checker : LineChecker
  pins : LanePins
  deriving DecidableEq, Repr

/-! ### Device-wide blocks -/

/-- The alarm kinds (R148). -/
inductive AlarmKind where
  | forcedOpen
  | driverFault
  | powerTrip
  | lockdown
  deriving DecidableEq, Repr

/-- An alarm record (R148); `lane` none is "device". -/
structure Alarm where
  kind : AlarmKind
  lane : Option LaneId
  first : Time
  last : Time
  repeats : Nat
  deriving DecidableEq, Repr

/-- The host link receiver states (R175). -/
inductive HostRxState where
  | hunt
  | lenLow
  | lenHigh
  | body
  | crcLow
  | crcHigh
  deriving DecidableEq, Repr

/-- The host link receiver (R175); the count of body bytes received is the length of `body`. -/
structure HostRx where
  state : HostRxState
  len : BitVec 16
  body : List Byte
  crc : BitVec 16
  crcLow : Byte
  gap : Option Time
  deriving DecidableEq, Repr

/-- A reply in a reply buffer: kind byte, tag, reply code, and the payload bytes after the code (R173, R181). -/
structure Reply where
  kind : Byte
  tag : Byte
  code : ReplyCode
  body : List Byte
  deriving DecidableEq, Repr

/-- The host link rate (R172). -/
inductive HostRate where
  | r57600
  | r115200
  | r230400
  | r460800
  deriving DecidableEq, Repr

/-- The host link (R172, R175, R176, R178, R189). -/
structure HostLink where
  rx : HostRx
  replies : List Reply
  errors : Nat
  rate : HostRate
  restartPending : Bool
  deriving DecidableEq, Repr

/-- The reset causes (R182). -/
inductive ResetCause where
  | powerOn
  | rst
  | restart
  deriving DecidableEq, Repr

/-- The whole machine: the eight lanes, the device-wide blocks, the reset state, the device-wide pins and the queue of
waiting commands (Log 1). -/
structure State where
  lanes : Vector Lane 8
  rules : Vector CodeRule 16
  poolFree : Nat
  alarms : List Alarm
  pointers : Vector LaneId 5
  lockdown : Bool
  lkdLevel : Bool
  link : HostLink
  resetCause : ResetCause
  resetFlag : Bool
  porHold : Bool
  rstAsserted : Bool
  resetSource : ResetCause
  timeBase : Time
  attn : Bool
  lkdPin : Bool
  pending : List Instr
  deriving DecidableEq, Repr

/-- Reasons to stop with a fault. The spec gives the block no event that stops it, so there is none: no meaning raises a
fault (Log 8). -/
inductive Fault where
  deriving DecidableEq, Repr

/-- Reasons to refuse a command. -/
inductive Refusal where
  /-- Raised by `exec`'s arm of a command that has no meaning yet, and by nothing else. Safe: no claim about such a
  command can be proved. No arm raises it now. -/
  | notModelled (mnemonic : String)
  deriving DecidableEq, Repr

/-! ### The values of device reset -/

/-- The reset values of the lane power controller (R1). -/
def PowerCtl.reset : PowerCtl :=
  { state := .off, progress := none, start := none, timer := none, pen := false }

/-- The reset values of the key matrix scanner (R22, R26, R32, R35, R40). -/
def KeyScanner.reset : KeyScanner :=
  { cells := Vector.replicate 128 { down := false, count := 0, mark := .none }
    downList := [], keylock := .off, typematic := none
    ghost := false, rollover := false, keylockFault := false, nextSample := none }

/-- The idle receive assembly (R45). -/
def Receiver.reset : Receiver :=
  { state := .idle, cls := none, chars := [], gap := none, breakPending := false }

/-- The break detector before it has seen a level (R51). DESIGN CHOICE: R51 gives its level, its time and its break timer no
value before the first level after entering ON; none and stopped (Log 6). -/
def BreakDetector.reset : BreakDetector := { absent := false, held := none, timer := none }

/-- The empty disable-reason set (R57). -/
def Reasons.empty : Reasons := { host := false, flow := false, drawer := false, check := false }

/-- The reset values of the scanner port (R45, R51, R53, R57). -/
def ScannerPort.reset : ScannerPort :=
  { rx := .reset, brk := .reset, cmds := [], lineState := none, reasons := .empty }

/-- The reset values of a code rule (R63). -/
def CodeRule.reset : CodeRule :=
  { active := false, cls := .any, minLen := 1, maxLen := 48, pattern := [], mod10 := false, value := none
    reject := false, tag := 0 }

/-- The cleared duplicate filter (R77, R80). -/
def DupFilter.cleared : DupFilter := { last := none, window := none }

/-- The empty lane queue (R85). -/
def LaneQueue.reset : LaneQueue := { records := [], seq := 0, loss := 0, held := 0 }

/-- The reset values of the drawer controller (R107). -/
def Drawer.reset : Drawer :=
  { state := .unsensed, sense := none, stability := none, pulse := none, confirm := none, openLong := none
    openStart := none, fault := false, flags := 0, drv := false }

/-- The zeroed counters (R139). -/
def Counters.zero : Counters :=
  { good := 0, checkFail := 0, rejected := 0, duplicate := 0, overrun := 0, frameErr := 0 }

/-- The reset values of the line checker (R161); the sequence register is "not used while idle" (Log 6). -/
def LineChecker.reset : LineChecker :=
  { state := .idle, timer := none, reg := 0, sent := [], run := 0, history := [], insert := false
    bytesSent := 0, bytesMatched := 0, mismatches := 0, lockLosses := 0, sending := none, freeIdx := 0 }

/-- The defaults of the static settings (R12, R21, R43, R44, R110). -/
def LaneCfg.reset : LaneCfg :=
  { settle := 4, rows := 8, cols := 16, period := 5, debounce := 3, typDelay := 500, typPeriod := 100
    releaseKey := none, rate := 9600, gap := 20, pulse := 50, confirm := 500 }

/-- The defaults of the live settings (R59, R61, R75, R98, R102, R110, R130, R141, R156); the key mask holds KEY_MANAGER
alone. -/
def LaneSet.reset : LaneSet :=
  { confirmTones := false, inhibitOpen := false, strict := false, valueLimit := 999999, dupWindow := 500
    quota := 12, high := 24, low := 16, openLong := 60, hostMask := 0, keyMask := 2, consume := 0
    modes := Vector.replicate 8 .rise, counterMode := .manual, interval := 60, priority := 1 }

/-- Pin levels of a lane in the reset state: PFLn deasserted, SRXn at mark, DSNn low. DESIGN CHOICE (Log 5). -/
def LanePins.atReset : LanePins := { pfl := false, srx := .mark, dsn := .closed }

/-- One lane at its device-reset values (R9, R10, R188). -/
def Lane.reset : Lane :=
  { power := .reset, cfg := .reset, keymap := Vector.replicate 128 .normal, set := .reset, keys := .reset
    port := .reset, filter := .cleared, queue := .reset, drawer := .reset, live := Vector.replicate 8 false
    counters := .zero, reportTimer := none, checker := .reset, pins := .atReset }

/-- The host link receiver in HUNT (R175, R188). -/
def HostRx.reset : HostRx := { state := .hunt, len := 0, body := [], crc := 0, crcLow := 0, gap := none }

/-- The host link at its device-reset values (R175, R176, R178, R188); the rate is the one sampled (R172, Log 5). -/
def HostLink.reset : HostLink :=
  { rx := .reset, replies := [], errors := 0, rate := .r57600, restartPending := false }

/-- The machine right after a power-on reset has ended with LKD deasserted (R188, Log 5). -/
def State.reset : State :=
  { lanes := Vector.replicate 8 .reset, rules := Vector.replicate 16 .reset, poolFree := Config.poolSize
    alarms := [], pointers := Vector.replicate 5 7, lockdown := false, lkdLevel := false, link := .reset
    resetCause := .powerOn, resetFlag := true, porHold := false, rstAsserted := false, resetSource := .powerOn
    timeBase := 0, attn := false, lkdPin := false, pending := [] }

end Sys2Proof.Machine
end

