-- ==== Sys2Proof/Machine/Ops.lean ====
section
/-!
DEFINITION. The shared operations of the model: reading the time base and timers, the view of one lane that a lane event
works on, offering a record to the lane queue, FLOW, conditions, counters, alarms, the scanner command queue and the
disable-reason set.
-/

namespace Sys2Proof.Machine

/-! ### Time (R191) -/

/-- The point has been reached: it lies at `now` or less than half the wrap behind it (R191; 00_scope.md,
Conventions: "times are compared as points on that wrapping count"). -/
def reached (now point : Time) : Bool := decide ((now - point).toNat < 2147483648)

/-- The timer runs and its expiry point has been reached, so its expiry takes place (Log 2). -/
def expired (now : Time) (timer : Option Time) : Bool :=
  match timer with
  | some point => reached now point
  | none => false

/-- The time `ms` milliseconds after `now` ("now plus", 00_scope.md, Conventions). -/
def after (now : Time) (ms : Nat) : Time := now + BitVec.ofNat 32 ms

/-! ### The view of one lane

A lane event reads the time base and the lockdown latch, and works on its own lane, the pool's free count, the alarm
queue and ATTN. Nothing else of the part is in its reach (R67, R99, R149, R160). -/

/-- What an event of one lane can see and change; `now`, `id` and `lockdown` are only read. -/
structure LaneView where
  now : Time
  id : LaneId
  lockdown : Bool
  ln : Lane
  free : Nat
  alarms : List Alarm
  attn : Bool
  deriving DecidableEq, Repr

/-- The view of a lane in a state. -/
def State.view (s : State) (l : LaneId) : LaneView :=
  { now := s.timeBase, id := l, lockdown := s.lockdown, ln := s.lanes[l], free := s.poolFree, alarms := s.alarms
    attn := s.attn }

/-- The state with a lane, the pool's free count, the alarm queue and ATTN taken from a view of that lane. -/
def State.put (s : State) (l : LaneId) (v : LaneView) : State :=
  { s with lanes := s.lanes.set l v.ln, poolFree := v.free, alarms := v.alarms, attn := v.attn }

/-- The state after an event of one lane. -/
def State.onLane (s : State) (l : LaneId) (f : LaneView → LaneView) : State := s.put l (f (s.view l))

/-- The part is held in reset, by the internal power-on reset or by RST (R188). -/
def State.held (s : State) : Bool := s.porHold || s.rstAsserted

/-- The state after an event of one lane; while the part is held in reset no input is heard (R188). -/
def State.laneEvent (s : State) (l : LaneId) (f : LaneView → LaneView) : State :=
  if s.held then s else s.onLane l f

/-- The view with another power controller. -/
def LaneView.setPower (v : LaneView) (x : PowerCtl) : LaneView := { v with ln := { v.ln with power := x } }

/-- The view with another key matrix scanner. -/
def LaneView.setKeys (v : LaneView) (x : KeyScanner) : LaneView := { v with ln := { v.ln with keys := x } }

/-- The view with another scanner port. -/
def LaneView.setPort (v : LaneView) (x : ScannerPort) : LaneView := { v with ln := { v.ln with port := x } }

/-- The view with another duplicate filter. -/
def LaneView.setFilter (v : LaneView) (x : DupFilter) : LaneView := { v with ln := { v.ln with filter := x } }

/-- The view with another lane queue. -/
def LaneView.setQueue (v : LaneView) (x : LaneQueue) : LaneView := { v with ln := { v.ln with queue := x } }

/-- The view with another drawer controller. -/
def LaneView.setDrawer (v : LaneView) (x : Drawer) : LaneView := { v with ln := { v.ln with drawer := x } }

/-- The view with other live states. -/
def LaneView.setLives (v : LaneView) (x : Vector Bool 8) : LaneView := { v with ln := { v.ln with live := x } }

/-- The view with other counters. -/
def LaneView.setCounters (v : LaneView) (x : Counters) : LaneView := { v with ln := { v.ln with counters := x } }

/-- The view with another report timer. -/
def LaneView.setReport (v : LaneView) (x : Option Time) : LaneView := { v with ln := { v.ln with reportTimer := x } }

/-- The view with another line checker. -/
def LaneView.setChecker (v : LaneView) (x : LineChecker) : LaneView := { v with ln := { v.ln with checker := x } }

/-- The view with other pin levels. -/
def LaneView.setPins (v : LaneView) (x : LanePins) : LaneView := { v with ln := { v.ln with pins := x } }

/-- The view with other static settings. -/
def LaneView.setCfg (v : LaneView) (x : LaneCfg) : LaneView := { v with ln := { v.ln with cfg := x } }

/-- The view with another keymap. -/
def LaneView.setKeymap (v : LaneView) (x : Vector KeyAttr 128) : LaneView := { v with ln := { v.ln with keymap := x } }

/-- The view with other live settings. -/
def LaneView.setSet (v : LaneView) (x : LaneSet) : LaneView := { v with ln := { v.ln with set := x } }

/-- The lane is ON (R1). -/
def Lane.on (d : Lane) : Bool := decide (d.power.state = .on)

/-- A line check runs: the check state is HUNT or LOCKED (R161). -/
def Lane.checking (d : Lane) : Bool := decide (d.checker.state ≠ .idle)

/-- The count of the lane queue (R85). -/
def Lane.count (d : Lane) : Nat := d.queue.records.length

/-- A counter or error count raised by one, saturating at 65535 (R139, R176). -/
def bump16 (n : Nat) : Nat := if n < 65535 then n + 1 else 65535

/-- A count of one byte raised by one, saturating at 255 (R95, R149). -/
def bump8 (n : Nat) : Nat := if n < 255 then n + 1 else 255

/-! ### The scanner command queue (R53 to R56) -/

/-- The command is a tone. -/
def ScanCmd.isTone : ScanCmd → Bool
  | .tone _ => true
  | .enable _ => false

/-- The line state as the transmission of a command begins: an 'E' or 'D' sets it (R53). -/
def beginCommand (line : Option Enable) : ScanCmd → Option Enable
  | .enable e => some e
  | .tone _ => line

/-- A command is appended at the tail; appended to an empty queue it becomes the head and its transmission begins (R53). -/
def ScannerPort.append (p : ScannerPort) (c : ScanCmd) : ScannerPort :=
  { p with
    cmds := p.cmds ++ [c]
    lineState := if p.cmds = [] then beginCommand p.lineState c else p.lineState }

/-- The number of tones waiting behind the head (R54). -/
def ScannerPort.waitingTones (p : ScannerPort) : Nat := (p.cmds.tail.filter ScanCmd.isTone).length

/-- The admission test of a tone (R54). -/
def ScannerPort.toneFits (p : ScannerPort) : Bool :=
  decide (p.waitingTones < Config.waitingToneLimit) && decide (p.cmds.length < Config.commandQueueSize)

/-- A tone is offered: appended when it fits, dropped otherwise (R54). -/
def ScannerPort.offerTone (p : ScannerPort) (t : Tone) : ScannerPort :=
  if p.toneFits then p.append (.tone t) else p

/-- The queue without its waiting 'E' and 'D' entries; the head stays (R55 step 1). -/
def withdrawWaiting : List ScanCmd → List ScanCmd
  | [] => []
  | head :: waiting => head :: waiting.filter ScanCmd.isTone

/-- The list without its last tone. -/
def dropLastTone : List ScanCmd → List ScanCmd
  | [] => []
  | c :: rest => if rest.any ScanCmd.isTone then c :: dropLastTone rest else if c.isTone then rest else c :: rest

/-- A full queue loses its newest waiting tone to make room (R55). -/
def makeRoom : List ScanCmd → List ScanCmd
  | [] => []
  | head :: waiting =>
    if Config.commandQueueSize ≤ (head :: waiting).length then head :: dropLastTone waiting else head :: waiting

/-- The command of an enable state is appended, a full queue making room for it (R55, R56). -/
def ScannerPort.appendEnable (p : ScannerPort) (e : Enable) : ScannerPort :=
  ScannerPort.append { p with cmds := makeRoom p.cmds } (.enable e)

/-- The two steps at a change of the desired enable state (R55). -/
def ScannerPort.changeDesired (p : ScannerPort) (e : Enable) : ScannerPort :=
  let q : ScannerPort := { p with cmds := withdrawWaiting p.cmds }
  if q.lineState = some e then q else q.appendEnable e

/-- The desired enable state: enabled exactly when the set is empty (R55). -/
def Reasons.desired (r : Reasons) : Enable :=
  if r.host || r.flow || r.drawer || r.check then .disabled else .enabled

/-- The re-statement of the enable state: the line state becomes none, a waiting 'E' or 'D' is removed and the command
of the desired state is appended (R56). -/
def ScannerPort.restate (p : ScannerPort) : ScannerPort :=
  ScannerPort.appendEnable { p with cmds := withdrawWaiting p.cmds, lineState := none } p.reasons.desired

/-- The completion of a transmission: the head leaves and the next entry begins (R53). -/
def ScannerPort.commandSent (p : ScannerPort) : ScannerPort :=
  match p.cmds.tail with
  | [] => { p with cmds := [] }
  | next :: rest => { p with cmds := next :: rest, lineState := beginCommand p.lineState next }

/-- The disable-reason set changes. While the lane is ON and no line check runs, a change of the desired enable state acts
on the command queue (R55, R57); otherwise the set changes alone (R57, R60). -/
def LaneView.setReasons (v : LaneView) (r : Reasons) : LaneView :=
  let p : ScannerPort := { v.ln.port with reasons := r }
  if v.ln.on && !v.ln.checking && decide (v.ln.port.reasons.desired ≠ r.desired) then
    v.setPort (p.changeDesired r.desired)
  else v.setPort p

/-- A tone is offered to the command queue; it is dropped while the lane is not ON or a line check runs (R54). -/
def LaneView.offerTone (v : LaneView) (t : Tone) : LaneView :=
  if v.ln.on && !v.ln.checking then v.setPort (v.ln.port.offerTone t) else v

/-- The tone that answers the outcome of a frame, while the confirm tones option is on (R61). -/
def LaneView.confirmTone (v : LaneView) (t : Tone) : LaneView :=
  if v.ln.set.confirmTones then v.offerTone t else v

/-! ### The lane queue (R87 to R95) -/

/-- The record is of class A (R87). -/
def RecordBody.classA : RecordBody → Bool
  | .keyDown _ _ | .keyRepeat _ | .scan _ _ _ _ _ _ | .reject _ _ _ => true
  | .keyUp _ | .keylock _ | .drawer _ _ _ _ _ | .lane _ _ | .condition _ _ | .counts _ _ | .check _ _ _ _ _ _ => false

/-- The number of code slots the record holds: one for SCAN and REJECT (R88). -/
def RecordBody.slots : RecordBody → Nat
  | .scan _ _ _ _ _ _ | .reject _ _ _ => 1
  | .keyDown _ _ | .keyRepeat _ | .keyUp _ | .keylock _ | .drawer _ _ _ _ _ | .lane _ _ | .condition _ _ | .counts _ _
  | .check _ _ _ _ _ _ => 0

/-- The lane queue takes the record, offered now (R91, R92). -/
def LaneView.takes (v : LaneView) (b : RecordBody) : Bool :=
  if b.classA then
    decide (v.ln.count < Config.openLimit) &&
      (decide (b.slots = 0) || (decide (v.ln.queue.held < v.ln.set.quota) && decide (0 < v.free)))
  else decide (v.ln.count < Config.queueSize)

/-- The record as the queue takes it: the lane's sequence number and loss count go into it (R86, R89, R93). -/
def LaneView.record (v : LaneView) (b : RecordBody) : LaneRecord :=
  { lane := v.id, seq := v.ln.queue.seq, time := v.now, lost := v.ln.queue.loss, body := b }

/-- The steps of taking a record, FLOW apart (R93 steps 1 to 3 and 5). -/
def LaneView.enqueue (v : LaneView) (b : RecordBody) : LaneView :=
  { v.setQueue
      { records := v.ln.queue.records ++ [v.record b]
        seq := v.ln.queue.seq + 1
        loss := 0
        held := v.ln.queue.held + b.slots } with
    free := v.free - b.slots
    attn := true }

/-- A refused record: class A changes nothing, class B raises the loss count (R94, R95). -/
def LaneView.refuse (v : LaneView) (b : RecordBody) : LaneView :=
  if b.classA then v else v.setQueue { v.ln.queue with loss := bump8 v.ln.queue.loss }

/-! ### Conditions and FLOW (R103, R104, R130 to R136) -/

/-- The place of a condition in condition order (R130). -/
def Condition.idx : Condition → Fin 8
  | .scannerAbsent => 0
  | .scannerHeld => 1
  | .ghost => 2
  | .rollover => 3
  | .keylockFault => 4
  | .drawerLong => 5
  | .driverFault => 6
  | .counterFull => 7

/-- A change to `live` is reported under the mode (R132). -/
def ReportMode.reports (m : ReportMode) (live : Bool) : Bool :=
  match m with
  | .off => false
  | .rise => live
  | .both => true

/-- The live state of a condition as the monitor holds it (R130). -/
def Lane.liveOf (d : Lane) (c : Condition) : Bool := d.live[c.idx]

/-- The report mode of a condition (R131). -/
def Lane.modeOf (d : Lane) (c : Condition) : ReportMode := d.set.modes[c.idx]

/-- The monitor's live state of one condition replaced (R132). -/
def LaneView.setLive (v : LaneView) (c : Condition) (live : Bool) : LaneView :=
  v.setLives (v.ln.live.set c.idx live)

/-- The evaluation of FLOW: the value it changes to, or none when it stays (R103). -/
def Lane.flowVerdict (d : Lane) : Option Bool :=
  if d.set.high ≤ d.count ∨ d.set.quota ≤ d.queue.held then
    if d.port.reasons.flow then none else some true
  else if d.count ≤ d.set.low ∧ d.queue.held + 2 ≤ d.set.quota then
    if d.port.reasons.flow then some false else none
  else none

/-- FLOW is evaluated and a change acts on its neighbours (R103, R104). A change seen while the lane is ON replaces the
live state of SCANNER_HELD; a CONDITION record it reports is itself an enqueue and evaluates FLOW again (R93, R136). The
first argument bounds that chain, which R136 says ends after the one CONDITION record. -/
def LaneView.evalFlow : Nat → LaneView → LaneView
  | 0, v => v
  | fuel + 1, v =>
    match v.ln.flowVerdict with
    | none => v
    | some flow =>
      let w := v.setReasons { v.ln.port.reasons with flow := flow }
      if w.ln.on && decide (w.ln.liveOf .scannerHeld ≠ flow) then
        let x := w.setLive .scannerHeld flow
        if (x.ln.modeOf .scannerHeld).reports flow then
          let b := RecordBody.condition .scannerHeld flow
          if x.takes b then (x.enqueue b).evalFlow fuel else x.refuse b
        else x
      else w

/-- The bound on the chain of FLOW evaluations within one offer: the record offered, then the CONDITION record. -/
def flowFuel : Nat := 2

/-- A record is offered to the lane queue, which takes it and evaluates FLOW, or refuses it (R91 to R95). -/
def LaneView.offer (v : LaneView) (b : RecordBody) : LaneView :=
  if v.takes b then (v.enqueue b).evalFlow flowFuel else v.refuse b

/-- A live state is handed to the condition monitor (R132, R133). -/
def LaneView.handOver (v : LaneView) (c : Condition) (live : Bool) : LaneView :=
  if v.ln.on && decide (v.ln.liveOf c ≠ live) then
    let w := v.setLive c live
    if (w.ln.modeOf c).reports live then w.offer (.condition c live) else w
  else v

/-! ### Counters (R138 to R140) -/

/-- The six counters by name (R139). -/
inductive CounterName where
  | good
  | checkFail
  | rejected
  | duplicate
  | overrun
  | frameErr
  deriving DecidableEq, Repr

/-- One counter raised by one (R139, R140). -/
def Counters.raise (c : Counters) : CounterName → Counters
  | .good => { c with good := bump16 c.good }
  | .checkFail => { c with checkFail := bump16 c.checkFail }
  | .rejected => { c with rejected := bump16 c.rejected }
  | .duplicate => { c with duplicate := bump16 c.duplicate }
  | .overrun => { c with overrun := bump16 c.overrun }
  | .frameErr => { c with frameErr := bump16 c.frameErr }

/-- One of the counters stands at 65535 (R138). -/
def Counters.full (c : Counters) : Bool :=
  decide (c.good = 65535) || decide (c.checkFail = 65535) || decide (c.rejected = 65535) ||
    decide (c.duplicate = 65535) || decide (c.overrun = 65535) || decide (c.frameErr = 65535)

/-- One counter of the lane is raised. -/
def LaneView.raise (v : LaneView) (c : CounterName) : LaneView := v.setCounters (v.ln.counters.raise c)

/-- The close of an event: COUNTER_FULL is evaluated when the event, which began with the counters `before`, changed one
of them (R138). -/
def LaneView.closeCounters (v : LaneView) (before : Counters) : LaneView :=
  if v.ln.counters = before then v else v.handOver .counterFull v.ln.counters.full

/-! ### Alarms (R148, R149) -/

/-- An alarm is raised at `now`: it merges into the record of its kind and lane, or is appended (R149). -/
def raiseAlarm (now : Time) (kind : AlarmKind) (lane : Option LaneId) : List Alarm → List Alarm
  | [] => [{ kind := kind, lane := lane, first := now, last := now, repeats := 1 }]
  | a :: rest =>
    if a.kind = kind ∧ a.lane = lane then { a with last := now, repeats := bump8 a.repeats } :: rest
    else a :: raiseAlarm now kind lane rest

/-- An alarm naming the lane is raised; ATTN is asserted, since the alarm queue then holds a record (R149, R160). -/
def LaneView.alarm (v : LaneView) (kind : AlarmKind) : LaneView :=
  { v with alarms := raiseAlarm v.now kind (some v.id) v.alarms, attn := true }

/-! ### Line check tallies and the CHECK record (R161, R170) -/

/-- One of the byte tallies of a line check. -/
inductive Tally where
  | sent
  | matched
  | mismatch
  deriving DecidableEq, Repr

/-- A tally raised by one; past 4,294,967,295 it is a free value (Log 7). -/
def raiseTally (l : LaneId) (idx : Nat) (n : BitVec 32) : BitVec 32 :=
  if n = BitVec.allOnes 32 then Config.tallyPastTop l idx else n + 1

/-- The running index of free values after a tally was raised. -/
def nextFree (idx : Nat) (n : BitVec 32) : Nat := if n = BitVec.allOnes 32 then idx + 1 else idx

/-- One byte tally of the checker raised by one (R161). -/
def LineChecker.raise (c : LineChecker) (l : LaneId) : Tally → LineChecker
  | .sent => { c with bytesSent := raiseTally l c.freeIdx c.bytesSent, freeIdx := nextFree c.freeIdx c.bytesSent }
  | .matched =>
    { c with bytesMatched := raiseTally l c.freeIdx c.bytesMatched, freeIdx := nextFree c.freeIdx c.bytesMatched }
  | .mismatch =>
    { c with mismatches := raiseTally l c.freeIdx c.mismatches, freeIdx := nextFree c.freeIdx c.mismatches }

/-- The CHECK record of a check that ends now (R170). -/
def LineChecker.report (c : LineChecker) (cause : EndCause) : RecordBody :=
  .check c.bytesSent c.bytesMatched c.mismatches c.lockLosses (decide (c.state = .locked)) cause

/-- The checker after its lane-local reset (R9, R161); the model's own index of free values runs on (Log 7). -/
def LineChecker.cleared (c : LineChecker) : LineChecker := { LineChecker.reset with freeIdx := c.freeIdx }

/-! ### Lane-local reset (R9, R10) -/

/-- The scanner port after lane-local reset: FLOW alone is kept (R9, R10). -/
def ScannerPort.laneReset (p : ScannerPort) : ScannerPort :=
  { ScannerPort.reset with reasons := { Reasons.empty with flow := p.reasons.flow } }

/-- The drawer controller after lane-local reset: the lane flags alone are kept (R9, R10, R107). -/
def Drawer.laneReset (d : Drawer) : Drawer := { Drawer.reset with flags := d.flags }

/-- The lane-local reset of the working blocks (R9); everything of R10 is kept. -/
def Lane.localReset (d : Lane) : Lane :=
  { d with
    keys := .reset
    port := d.port.laneReset
    filter := .cleared
    drawer := d.drawer.laneReset
    live := Vector.replicate 8 false
    reportTimer := none
    checker := d.checker.cleared }

end Sys2Proof.Machine
end

