-- ==== Sys2Proof/Machine/Operands.lean ====
section
/-!
DEFINITION. The operand forms: byte order, the value lists of R190, the list checks and clamps of R180 with the settings
they store, the parsing of a request's payload, and the byte layouts of settings, records and alarms.
-/

namespace Sys2Proof.Machine

/-! ### Byte order: low byte first (R173, R190) -/

/-- A number of one byte. -/
def byteOf (n : Nat) : Byte := BitVec.ofNat 8 n

/-- The bytes of a 16-bit number, low byte first (R190). -/
def bytes16 (w : BitVec 16) : List Byte := [w.setWidth 8, (w >>> 8).setWidth 8]

/-- The bytes of a 32-bit number, low byte first (R190). -/
def bytes32 (w : BitVec 32) : List Byte :=
  [w.setWidth 8, (w >>> 8).setWidth 8, (w >>> 16).setWidth 8, (w >>> 24).setWidth 8]

/-- The bytes of a 16-bit count, low byte first. -/
def bytes16n (n : Nat) : List Byte := bytes16 (BitVec.ofNat 16 n)

/-- The bytes of a 32-bit count, low byte first. -/
def bytes32n (n : Nat) : List Byte := bytes32 (BitVec.ofNat 32 n)

/-- The 16-bit number of two bytes, low byte first. -/
def word16 (b0 b1 : Byte) : BitVec 16 := b1 ++ b0

/-- The 32-bit number of four bytes, low byte first. -/
def word32 (b0 b1 b2 b3 : Byte) : BitVec 32 := b3 ++ b2 ++ b1 ++ b0

/-- A byte of a payload; payloads are parsed only after their length is checked (R177 step 4). -/
def byteAt (p : List Byte) (i : Nat) : Byte := p.getD i 0

/-- The 16-bit number at an offset of a payload. -/
def wordAt16 (p : List Byte) (i : Nat) : BitVec 16 := word16 (byteAt p i) (byteAt p (i + 1))

/-- The 32-bit number at an offset of a payload. -/
def wordAt32 (p : List Byte) (i : Nat) : BitVec 32 :=
  word32 (byteAt p i) (byteAt p (i + 1)) (byteAt p (i + 2)) (byteAt p (i + 3))

/-! ### Value lists (R190) -/

/-- 0 for no, off, clear or false; 1 for yes, on, set or true (R190). -/
def bitByte (b : Bool) : Byte := if b then 1 else 0

/-- The value of a reply code (R190). -/
def ReplyCode.byte : ReplyCode → Byte
  | .done => 0
  | .clamped => 1
  | .unknownKind => 2
  | .badLength => 3
  | .badLane => 4
  | .badField => 5
  | .laneActive => 6
  | .notReady => 7
  | .busy => 8
  | .denied => 9
  | .lockedDown => 10
  | .faulted => 11
  | .stillAsserted => 12

/-- The value of a lane state (R190). -/
def LaneState.byte : LaneState → Byte
  | .off => 0
  | .settling => 1
  | .on => 2
  | .tripped => 3

/-- The value of a keylock position (R190). -/
def Keylock.byte : Keylock → Byte
  | .off => 0
  | .operate => 1
  | .manager => 2
  | .training => 3

/-- The key attribute of a byte, none for a value outside the list (R190). -/
def KeyAttr.ofByte (b : Byte) : Option KeyAttr :=
  match b.toNat with
  | 0 => some .normal
  | 1 => some .repeating
  | 2 => some .unused
  | 3 => some (.keylock .off)
  | 4 => some (.keylock .operate)
  | 5 => some (.keylock .manager)
  | 6 => some (.keylock .training)
  | _ => none

/-- The value of a drawer state (R190). -/
def DrawerState.byte : DrawerState → Byte
  | .unsensed => 0
  | .closed => 1
  | .releasing => 2
  | .awaitOpen => 3
  | .opened => 4
  | .openLong => 5

/-- The value of a drawer event (R190). -/
def DrawerEvent.byte : DrawerEvent → Byte
  | .initial => 0
  | .granted => 1
  | .refused => 2
  | .opened => 3
  | .notOpened => 4
  | .openLong => 5
  | .closed => 6
  | .forced => 7

/-- The value of a release source (R190). -/
def ReleaseSource.byte : ReleaseSource → Byte
  | .host => 0
  | .key => 1

/-- The value of a reject reason (R190). -/
def RejectReason.byte : RejectReason → Byte
  | .noRule => 0
  | .rule => 1
  | .check => 2
  | .valueLimit => 3

/-- The value of a report mode (R190). -/
def ReportMode.byte : ReportMode → Byte
  | .off => 0
  | .rise => 1
  | .both => 2

/-- The report mode of a byte; a LANESET is stored only when each byte is in the list (R131, R180). -/
def ReportMode.ofByte (b : Byte) : ReportMode :=
  match b.toNat with
  | 0 => .off
  | 1 => .rise
  | _ => .both

/-- The value of a counter mode (R190). -/
def CounterMode.byte : CounterMode → Byte
  | .manual => 0
  | .auto => 1

/-- The value of an end cause (R190). -/
def EndCause.byte : EndCause → Byte
  | .time => 0
  | .host => 1
  | .lane => 2

/-- The value of a reset cause (R190). -/
def ResetCause.byte : ResetCause → Byte
  | .powerOn => 0
  | .rst => 1
  | .restart => 2

/-- The byte of a frame class (R190). -/
def CodeClass.byte : CodeClass → Byte
  | .numeric => 0x4E
  | .alpha => 0x41

/-- The byte of a rule class (R190). -/
def RuleClass.byte : RuleClass → Byte
  | .numeric => 0x4E
  | .alpha => 0x41
  | .any => 0x2A

/-- The rule class of a byte, none for a value outside the list (R190). -/
def RuleClass.ofByte (b : Byte) : Option RuleClass :=
  if b = 0x4E then some .numeric
  else if b = 0x41 then some .alpha
  else if b = 0x2A then some .any
  else none

/-- The kind byte of an alarm record (R190). -/
def AlarmKind.byte : AlarmKind → Byte
  | .forcedOpen => 1
  | .driverFault => 2
  | .powerTrip => 3
  | .lockdown => 4

/-- A field that may be none: 0xFF (R190). -/
def optByte : Option Byte → Byte
  | some b => b
  | none => 0xFF

/-- The byte of a settle progress, 0xFF for none (R190). -/
def progressByte (m : Option Milestone) : Byte := optByte (m.map fun i => byteOf i.val)

/-- The byte of a rule index, 0xFF for none (R190). -/
def ruleByte (r : Option RuleIdx) : Byte := optByte (r.map fun i => byteOf i.val)

/-- The number of one bit per member, bit 0 being the first member (R190). -/
def setByte (members : List Bool) : Byte :=
  byteOf ((members.zipIdx.map fun m => if m.1 then 2 ^ m.2 else 0).sum)

/-- The disable-reason set as a byte (R190). -/
def Reasons.byte (r : Reasons) : Byte := setByte [r.host, r.flow, r.drawer, r.check]

/-- The live states as a condition set (R190). -/
def liveByte (live : Vector Bool 8) : Byte := setByte live.toList

/-! ### List checks and clamps (R180) -/

/-- An off or on, no or yes, read or write choice (R190). -/
def isChoice (b : Byte) : Bool := decide (b.toNat ≤ 1)

/-- A numeric field replaced by the nearest value of its range (R180). -/
def clamp (lo hi n : Nat) : Nat := if n < lo then lo else if hi < n then hi else n

/-- The scanner rate stored for a value: the nearest of the five, the lower when exactly halfway (R43). -/
def nearestRate (n : Nat) : Nat :=
  if n ≤ 14400 then 9600
  else if n ≤ 28800 then 19200
  else if n ≤ 48000 then 38400
  else if n ≤ 86400 then 57600
  else 115200

/-- The duplicate window stored for a value: at most 2550, the nearest multiple of 10, the lower when exactly halfway
(R75). -/
def nearestWindow (n : Nat) : Nat :=
  if 2550 < n then 2550 else if n % 10 ≤ 5 then n - n % 10 else n - n % 10 + 10

/-- A milestone index clamped to 0 to 7 (R12). -/
def clampMilestone (n : Nat) : Milestone := ⟨min n 7, by omega⟩

/-- A priority class clamped to 0 to 3 (R156). -/
def clampPriority (n : Nat) : Fin 4 := ⟨min n 3, by omega⟩

/-- The release key of a field byte: a position, or none for 0xFF (R21, R190). -/
def releaseKeyOf (b : Byte) : Option KeyPos := if h : b.toNat < 128 then some ⟨b.toNat, h⟩ else none

/-- The byte is a digit '0' to '9' (R45). -/
def isDigit (b : Byte) : Bool := decide (0x30 ≤ b.toNat) && decide (b.toNat ≤ 0x39)

/-- The byte is printable, 0x20 to 0x7E (R45). -/
def isPrintable (b : Byte) : Bool := decide (0x20 ≤ b.toNat) && decide (b.toNat ≤ 0x7E)

/-- The byte is a character of the frame class (R45). -/
def CodeClass.admits : CodeClass → Byte → Bool
  | .numeric, b => isDigit b
  | .alpha, b => isPrintable b

/-- The byte may be a specific pattern character of an entry of this class (R64). -/
def RuleClass.admits : RuleClass → Byte → Bool
  | .numeric, b => isDigit b
  | .alpha, b => isPrintable b
  | .any, b => isPrintable b

end Sys2Proof.Machine

namespace Sys2Proof

open Machine

/-- Every field of a LANECFG with a list of values holds one of them: the release key alone has a list (R21). -/
def LaneCfgFields.listed (f : LaneCfgFields) : Bool := decide (f.releaseKey.toNat < 128) || f.releaseKey == 0xFF

/-- The settings a LANECFG stores, each number clamped (R12, R21, R43, R44, R110). -/
def LaneCfgFields.store (f : LaneCfgFields) : LaneCfg :=
  { settle := clampMilestone f.settle.toNat
    rows := clamp 1 8 f.rows.toNat
    cols := clamp 1 16 f.cols.toNat
    period := clamp 2 16 f.period.toNat
    debounce := clamp 1 8 f.debounce.toNat
    typDelay := clamp 250 1000 f.typDelay.toNat
    typPeriod := clamp 33 500 f.typPeriod.toNat
    releaseKey := releaseKeyOf f.releaseKey
    rate := nearestRate f.rate.toNat
    gap := clamp 5 50 f.gap.toNat
    pulse := clamp 20 200 f.pulse.toNat
    confirm := clamp 100 2000 f.confirm.toNat }

/-- A number of the LANECFG is not stored as given, so the reply is CLAMPED (R180). -/
def LaneCfgFields.clamps (f : LaneCfgFields) : Bool :=
  let c := f.store
  decide (c.settle.val ≠ f.settle.toNat) || decide (c.rows ≠ f.rows.toNat) || decide (c.cols ≠ f.cols.toNat) ||
    decide (c.period ≠ f.period.toNat) || decide (c.debounce ≠ f.debounce.toNat) ||
    decide (c.typDelay ≠ f.typDelay.toNat) || decide (c.typPeriod ≠ f.typPeriod.toNat) ||
    decide (c.rate ≠ f.rate.toNat) || decide (c.gap ≠ f.gap.toNat) || decide (c.pulse ≠ f.pulse.toNat) ||
    decide (c.confirm ≠ f.confirm.toNat)

/-- Every field of a LANESET with a list of values holds one of them (R59, R61, R75, R110, R131, R141). -/
def LaneSetFields.listed (f : LaneSetFields) : Bool :=
  isChoice f.confirmTones && isChoice f.inhibitOpen && isChoice f.strict && decide (f.hostMask.toNat < 128) &&
    decide (f.keyMask.toNat < 128) && decide (f.consume.toNat < 16) &&
    f.modes.toList.all (fun m => decide (m.toNat ≤ 2)) && isChoice f.counterMode

/-- The settings a LANESET stores, each number clamped, the low-water mark against the high-water mark just stored
(R75, R98, R102, R110, R141, R156). -/
def LaneSetFields.store (f : LaneSetFields) : LaneSet :=
  let high := clamp 8 28 f.high.toNat
  { confirmTones := f.confirmTones == 1
    inhibitOpen := f.inhibitOpen == 1
    strict := f.strict == 1
    valueLimit := clamp 0 999999 f.valueLimit.toNat
    dupWindow := nearestWindow f.dupWindow.toNat
    quota := clamp 2 32 f.quota.toNat
    high := high
    low := clamp 0 (high - 4) f.low.toNat
    openLong := clamp 5 600 f.openLong.toNat
    hostMask := f.hostMask.setWidth 7
    keyMask := f.keyMask.setWidth 7
    consume := f.consume.setWidth 4
    modes := Vector.ofFn fun i => ReportMode.ofByte f.modes[i]
    counterMode := if f.counterMode == 1 then .auto else .manual
    interval := clamp 1 255 f.interval.toNat
    priority := clampPriority f.priority.toNat }

/-- A number of the LANESET is not stored as given, so the reply is CLAMPED (R180). -/
def LaneSetFields.clamps (f : LaneSetFields) : Bool :=
  let c := f.store
  decide (c.valueLimit ≠ f.valueLimit.toNat) || decide (c.dupWindow ≠ f.dupWindow.toNat) ||
    decide (c.quota ≠ f.quota.toNat) || decide (c.high ≠ f.high.toNat) || decide (c.low ≠ f.low.toNat) ||
    decide (c.openLong ≠ f.openLong.toNat) || decide (c.interval ≠ f.interval.toNat) ||
    decide (c.priority.val ≠ f.priority.toNat)

/-- The named positions of a pattern field: 0x00 is "any" (R190). -/
def RuleFields.patternList (f : RuleFields) : List (Option Byte) :=
  (f.pattern.toList.take f.patLen.toNat).map fun b => if b = 0 then none else some b

/-- The validity conditions of R64 on one entry, for the class its class byte names. -/
def RuleFields.validFor (f : RuleFields) (cls : RuleClass) : Bool :=
  isChoice f.active && isChoice f.check && isChoice f.action && isChoice f.valuePresent &&
    decide (1 ≤ f.minLen.toNat) && decide (f.minLen.toNat ≤ 48) && decide (1 ≤ f.maxLen.toNat) &&
    decide (f.maxLen.toNat ≤ 48) && decide (f.minLen.toNat ≤ f.maxLen.toNat) &&
    decide (f.patLen.toNat ≤ 8) && decide (f.patLen.toNat ≤ f.minLen.toNat) &&
    f.patternList.all (fun e => match e with | none => true | some b => cls.admits b) &&
    (!(f.check == 1 || f.valuePresent == 1) || decide (cls = .numeric)) &&
    (!(f.check == 1) || decide (f.minLen.toNat ≠ 1)) &&
    (!(f.valuePresent == 1) ||
      (decide (1 ≤ f.start.toNat) && decide (1 ≤ f.count.toNat) && decide (f.count.toNat ≤ 6) &&
        decide (f.scale.toNat ≤ 3) && decide (f.start.toNat + f.count.toNat - 1 ≤ f.minLen.toNat) &&
        (!(f.check == 1) || decide (f.start.toNat + f.count.toNat - 1 ≤ f.minLen.toNat - 1)))) &&
    decide (f.tag.toNat ≤ 15)

/-- The entry a valid RULE writes; an absent value is stored with no start, count or scale (R64). -/
def RuleFields.entry (f : RuleFields) (cls : RuleClass) : CodeRule :=
  { active := f.active == 1
    cls := cls
    minLen := f.minLen.toNat
    maxLen := f.maxLen.toNat
    pattern := f.patternList
    mod10 := f.check == 1
    value :=
      if f.valuePresent == 1 then
        some { start := f.start.toNat, count := f.count.toNat, scale := f.scale.toNat }
      else none
    reject := f.action == 1
    tag := ⟨f.tag.toNat % 16, by omega⟩ }

/-- The entry of a RULE that passes R64, none for one that is refused. -/
def RuleFields.store (f : RuleFields) : Option CodeRule :=
  match RuleClass.ofByte f.cls with
  | none => none
  | some cls => if f.validFor cls then some (f.entry cls) else none

end Sys2Proof

namespace Sys2Proof.Machine

/-! ### Requests (R177, R190) -/

/-- The eighteen request kinds (R190). -/
inductive RequestKind where
  | ident
  | status
  | laneCfg
  | laneSet
  | keymap
  | rule
  | ruleQ
  | power
  | fetch
  | release
  | flags
  | inhibit
  | tone
  | counts
  | check
  | unlock
  | clrFault
  | restart
  deriving DecidableEq, Repr

/-- The kind byte of a request (R190). -/
def RequestKind.byte : RequestKind → Byte
  | .ident => 0x01
  | .status => 0x02
  | .laneCfg => 0x03
  | .laneSet => 0x04
  | .keymap => 0x05
  | .rule => 0x06
  | .ruleQ => 0x07
  | .power => 0x08
  | .fetch => 0x09
  | .release => 0x0A
  | .flags => 0x0B
  | .inhibit => 0x0C
  | .tone => 0x0D
  | .counts => 0x0E
  | .check => 0x0F
  | .unlock => 0x10
  | .clrFault => 0x11
  | .restart => 0x12

/-- The request kind a kind byte names, none for any other byte (R177 step 3). -/
def RequestKind.ofByte (b : Byte) : Option RequestKind :=
  match b.toNat with
  | 0x01 => some .ident
  | 0x02 => some .status
  | 0x03 => some .laneCfg
  | 0x04 => some .laneSet
  | 0x05 => some .keymap
  | 0x06 => some .rule
  | 0x07 => some .ruleQ
  | 0x08 => some .power
  | 0x09 => some .fetch
  | 0x0A => some .release
  | 0x0B => some .flags
  | 0x0C => some .inhibit
  | 0x0D => some .tone
  | 0x0E => some .counts
  | 0x0F => some .check
  | 0x10 => some .unlock
  | 0x11 => some .clrFault
  | 0x12 => some .restart
  | _ => none

/-- The payload length of a request kind (R190). -/
def RequestKind.payloadLength : RequestKind → Nat
  | .ident => 0
  | .status => 1
  | .laneCfg => 20
  | .laneSet => 30
  | .keymap => 4
  | .rule => 21
  | .ruleQ => 1
  | .power => 2
  | .fetch => 2
  | .release => 1
  | .flags => 3
  | .inhibit => 2
  | .tone => 2
  | .counts => 2
  | .check => 3
  | .unlock => 0
  | .clrFault => 1
  | .restart => 0

/-- A request whose kind and payload length are right, its fields as sent (R190). -/
inductive Request where
  | ident
  | status (lane : Byte)
  | laneCfg (lane write : Byte) (fields : LaneCfgFields)
  | laneSet (lane write : Byte) (fields : LaneSetFields)
  | keymap (lane first count attr : Byte)
  | rule (index : Byte) (fields : RuleFields)
  | ruleQ (index : Byte)
  | power (lane value : Byte)
  | fetch (lane maximum : Byte)
  | release (lane : Byte)
  | flags (lane setList clearList : Byte)
  | inhibit (lane value : Byte)
  | tone (lane tone : Byte)
  | counts (lane clear : Byte)
  | check (lane action duration : Byte)
  | unlock
  | clrFault (lane : Byte)
  | restart
  deriving DecidableEq, Repr

/-- The kind of a request. -/
def Request.kind : Request → RequestKind
  | .ident => .ident
  | .status _ => .status
  | .laneCfg _ _ _ => .laneCfg
  | .laneSet _ _ _ => .laneSet
  | .keymap _ _ _ _ => .keymap
  | .rule _ _ => .rule
  | .ruleQ _ => .ruleQ
  | .power _ _ => .power
  | .fetch _ _ => .fetch
  | .release _ => .release
  | .flags _ _ _ => .flags
  | .inhibit _ _ => .inhibit
  | .tone _ _ => .tone
  | .counts _ _ => .counts
  | .check _ _ _ => .check
  | .unlock => .unlock
  | .clrFault _ => .clrFault
  | .restart => .restart

/-- The fields of a LANECFG payload (R190). -/
def laneCfgFieldsOf (p : List Byte) : LaneCfgFields :=
  { settle := byteAt p 2, rows := byteAt p 3, cols := byteAt p 4, period := byteAt p 5, debounce := byteAt p 6
    typDelay := wordAt16 p 7, typPeriod := wordAt16 p 9, releaseKey := byteAt p 11, rate := wordAt32 p 12
    gap := byteAt p 16, pulse := byteAt p 17, confirm := wordAt16 p 18 }

/-- The fields of a LANESET payload (R190). -/
def laneSetFieldsOf (p : List Byte) : LaneSetFields :=
  { confirmTones := byteAt p 2, inhibitOpen := byteAt p 3, strict := byteAt p 4, valueLimit := wordAt32 p 5
    dupWindow := wordAt16 p 9, quota := byteAt p 11, high := byteAt p 12, low := byteAt p 13
    openLong := wordAt16 p 14, hostMask := byteAt p 16, keyMask := byteAt p 17, consume := byteAt p 18
    modes := Vector.ofFn fun i => byteAt p (19 + i.val)
    counterMode := byteAt p 27, interval := byteAt p 28, priority := byteAt p 29 }

/-- The fields of a RULE payload (R190). -/
def ruleFieldsOf (p : List Byte) : RuleFields :=
  { active := byteAt p 1, cls := byteAt p 2, minLen := byteAt p 3, maxLen := byteAt p 4, patLen := byteAt p 5
    pattern := Vector.ofFn fun i => byteAt p (6 + i.val)
    check := byteAt p 14, valuePresent := byteAt p 15, start := byteAt p 16, count := byteAt p 17
    scale := byteAt p 18, action := byteAt p 19, tag := byteAt p 20 }

/-- The request of a kind with a payload of that kind's length (R190). -/
def requestOf (k : RequestKind) (p : List Byte) : Request :=
  match k with
  | .ident => .ident
  | .status => .status (byteAt p 0)
  | .laneCfg => .laneCfg (byteAt p 0) (byteAt p 1) (laneCfgFieldsOf p)
  | .laneSet => .laneSet (byteAt p 0) (byteAt p 1) (laneSetFieldsOf p)
  | .keymap => .keymap (byteAt p 0) (byteAt p 1) (byteAt p 2) (byteAt p 3)
  | .rule => .rule (byteAt p 0) (ruleFieldsOf p)
  | .ruleQ => .ruleQ (byteAt p 0)
  | .power => .power (byteAt p 0) (byteAt p 1)
  | .fetch => .fetch (byteAt p 0) (byteAt p 1)
  | .release => .release (byteAt p 0)
  | .flags => .flags (byteAt p 0) (byteAt p 1) (byteAt p 2)
  | .inhibit => .inhibit (byteAt p 0) (byteAt p 1)
  | .tone => .tone (byteAt p 0) (byteAt p 1)
  | .counts => .counts (byteAt p 0) (byteAt p 1)
  | .check => .check (byteAt p 0) (byteAt p 1) (byteAt p 2)
  | .unlock => .unlock
  | .clrFault => .clrFault (byteAt p 0)
  | .restart => .restart

/-- The checks of kind and payload length: the request, or the reply code of the refusal (R177 steps 3 and 4). -/
def parseRequest (kind : Byte) (p : List Byte) : Except ReplyCode Request :=
  match RequestKind.ofByte kind with
  | none => .error .unknownKind
  | some k => if p.length = k.payloadLength then .ok (requestOf k p) else .error .badLength

/-! ### Byte layouts of settings, records and alarms (R190) -/

/-- The 18 bytes of the static settings from the settle requirement on (R190). -/
def LaneCfg.bytes (c : LaneCfg) : List Byte :=
  [byteOf c.settle.val, byteOf c.rows, byteOf c.cols, byteOf c.period, byteOf c.debounce] ++ bytes16n c.typDelay ++
    bytes16n c.typPeriod ++ [optByte (c.releaseKey.map fun k => byteOf k.val)] ++ bytes32n c.rate ++
    [byteOf c.gap, byteOf c.pulse] ++ bytes16n c.confirm

/-- The 28 bytes of the live settings from confirm tones on (R190). -/
def LaneSet.bytes (c : LaneSet) : List Byte :=
  [bitByte c.confirmTones, bitByte c.inhibitOpen, bitByte c.strict] ++ bytes32n c.valueLimit ++
    bytes16n c.dupWindow ++ [byteOf c.quota, byteOf c.high, byteOf c.low] ++ bytes16n c.openLong ++
    [c.hostMask.setWidth 8, c.keyMask.setWidth 8, c.consume.setWidth 8] ++ c.modes.toList.map ReportMode.byte ++
    [c.counterMode.byte, byteOf c.interval, byteOf c.priority.val]

/-- The 8 pattern bytes of an entry: 0x00 for "any" and beyond the pattern (R190). -/
def CodeRule.patternBytes (r : CodeRule) : List Byte :=
  let named := r.pattern.map fun e => match e with | none => (0 : Byte) | some b => b
  named ++ List.replicate (8 - named.length) 0

/-- The 20 bytes of an entry from active on (R190, R66). -/
def CodeRule.bytes (r : CodeRule) : List Byte :=
  [bitByte r.active, r.cls.byte, byteOf r.minLen, byteOf r.maxLen, byteOf r.pattern.length] ++ r.patternBytes ++
    [bitByte r.mod10] ++
    (match r.value with
      | none => [0, 0, 0, 0]
      | some v => [1, byteOf v.start, byteOf v.count, byteOf v.scale]) ++
    [bitByte r.reject, byteOf r.tag.val]

/-- The bytes of the six counters, 2 each (R190). -/
def Counters.bytes (c : Counters) : List Byte :=
  bytes16n c.good ++ bytes16n c.checkFail ++ bytes16n c.rejected ++ bytes16n c.duplicate ++ bytes16n c.overrun ++
    bytes16n c.frameErr

/-- The kind byte of a lane record (R190). -/
def RecordBody.kindByte : RecordBody → Byte
  | .keyDown _ _ => 1
  | .keyRepeat _ => 2
  | .scan _ _ _ _ _ _ => 3
  | .reject _ _ _ => 4
  | .keyUp _ => 5
  | .keylock _ => 6
  | .drawer _ _ _ _ _ => 7
  | .lane _ _ => 8
  | .condition _ _ => 9
  | .counts _ _ => 10
  | .check _ _ _ _ _ _ => 11

/-- The body of a lane record (R190). -/
def RecordBody.bytes : RecordBody → List Byte
  | .keyDown pos lock => [byteOf pos.val, lock.byte]
  | .keyRepeat pos => [byteOf pos.val]
  | .scan code idx tag checked training value =>
    [code.cls.byte, byteOf code.chars.length, ruleByte idx, byteOf tag.val, setByte [checked, training, value.isSome]] ++
      code.chars ++
      (match value with
        | none => []
        | some v => bytes32n v.value ++ [byteOf v.scale] ++ v.lookup)
  | .reject code reason idx =>
    [code.cls.byte, byteOf code.chars.length, reason.byte, ruleByte idx] ++ code.chars
  | .keyUp pos => [byteOf pos.val]
  | .keylock position => [position.byte]
  | .drawer event state source refusal duration =>
    [event.byte, state.byte, setByte [source.isSome, refusal.isSome, duration.isSome]] ++
      [match source with | none => (0 : Byte) | some x => x.byte] ++
      (match refusal with | none => [0, 0] | some (code, failing) => [code.byte, failing.setWidth 8]) ++
      bytes32 (duration.getD 0)
  | .lane state progress => [state.byte, progressByte progress]
  | .condition c live => [byteOf c.idx.val, bitByte live]
  | .counts c interval => c.bytes ++ [byteOf interval]
  | .check sent matched mismatches lockLosses locked cause =>
    bytes32 sent ++ bytes32 matched ++ bytes32 mismatches ++ bytes16n lockLosses ++ [bitByte locked, cause.byte]

/-- A lane record: its header of 9 bytes and its body (R190). -/
def LaneRecord.bytes (r : LaneRecord) : List Byte :=
  [r.body.kindByte, byteOf r.lane.val] ++ bytes16 r.seq ++ bytes32 r.time ++ [byteOf r.lost] ++ r.body.bytes

/-- An alarm record (R190). -/
def Alarm.bytes (a : Alarm) : List Byte :=
  [a.kind.byte, optByte (a.lane.map fun l => byteOf l.val)] ++ bytes32 a.first ++ bytes32 a.last ++ [byteOf a.repeats]

/-- A record in a FETCH reply: its length, then its bytes (R190). -/
def withLength (bytes : List Byte) : List Byte := byteOf bytes.length :: bytes

end Sys2Proof.Machine
end

