-- ==== Sys2Proof/Machine/Codes.lean ====
section
/-!
DEFINITION. Chapter 4: the code rule table, the check digit, embedded values and lookup keys, the steps a completed code
goes through, the duplicate filter, and the outcomes of a frame.
-/

namespace Sys2Proof.Machine

/-! ### Matching (R68) -/

/-- The class of an entry matches the class of a code (R68). -/
def RuleClass.covers : RuleClass → CodeClass → Bool
  | .any, _ => true
  | .numeric, .numeric => true
  | .alpha, .alpha => true
  | .numeric, .alpha => false
  | .alpha, .numeric => false

/-- The pattern agrees with the first characters of a code (R63, R68). -/
def patternAgrees : List (Option Byte) → List Byte → Bool
  | [], _ => true
  | _ :: _, [] => false
  | none :: pattern, _ :: chars => patternAgrees pattern chars
  | some b :: pattern, c :: chars => decide (b = c) && patternAgrees pattern chars

/-- An active entry matches a code (R68). -/
def CodeRule.matchesCode (r : CodeRule) (code : Code) : Bool :=
  r.active && r.cls.covers code.cls && decide (r.minLen ≤ code.chars.length) &&
    decide (code.chars.length ≤ r.maxLen) && patternAgrees r.pattern code.chars

/-- The index of the first active entry that matches (R68). -/
def matchingRule (rules : Vector CodeRule 16) (code : Code) : Option RuleIdx :=
  (List.finRange 16).find? fun i => rules[i].matchesCode code

/-! ### Check digit and embedded value (R70 to R73) -/

/-- The digit of a character '0' to '9'. -/
def digitOf (b : Byte) : Nat := b.toNat - 0x30

/-- The character of a digit. -/
def charOf (n : Nat) : Byte := byteOf (0x30 + n)

/-- The sum S of R70: the first L − 1 digits, each weighing 3 when L − i is odd and 1 when it is even. -/
def mod10Sum (digits : List Nat) : Nat :=
  (digits.dropLast.zipIdx.map fun d => d.1 * (if (digits.length - (d.2 + 1)) % 2 = 1 then 3 else 1)).sum

/-- The expected check digit (R70). -/
def expectedDigit (digits : List Nat) : Nat := (10 - mod10Sum digits % 10) % 10

/-- The string satisfies the weighted modulo-10 check (R70). -/
def mod10Passes (chars : List Byte) : Bool :=
  decide ((chars.map digitOf).getLast? = some (expectedDigit (chars.map digitOf)))

/-- The decimal number of digits, the leftmost most significant (R72). -/
def decimal (digits : List Nat) : Nat := digits.foldl (fun n d => 10 * n + d) 0

/-- The value of a code: its digits from the start position (R72). -/
def ValueField.valueOf (f : ValueField) (chars : List Byte) : Nat :=
  decimal (((chars.drop (f.start - 1)).take f.count).map digitOf)

/-- The code with each digit of the value field replaced by '0' (R73). -/
def ValueField.zeroed (f : ValueField) (chars : List Byte) : List Byte :=
  chars.take (f.start - 1) ++ List.replicate f.count 0x30 ++ chars.drop (f.start - 1 + f.count)

/-- The string with its last character replaced by the expected check digit (R73). -/
def withCheckDigit (chars : List Byte) : List Byte :=
  chars.dropLast ++ [charOf (expectedDigit (chars.map digitOf))]

/-- The lookup key (R73). -/
def ValueField.lookupKey (f : ValueField) (mod10 : Bool) (chars : List Byte) : List Byte :=
  if mod10 then withCheckDigit (f.zeroed chars) else f.zeroed chars

/-- The value part a matched entry takes out of a code, none when it has no value field (R72, R73). -/
def CodeRule.valuePart (r : CodeRule) (chars : List Byte) : Option ValuePart :=
  r.value.map fun f => { value := f.valueOf chars, scale := f.scale, lookup := f.lookupKey r.mod10 chars }

/-! ### Steps 1 to 5 (R67 to R74) -/

/-- What steps 1 to 5 make of a code. -/
inductive Judgement where
  /-- Rejected with a reason and a rule index (R82). -/
  | reject (reason : RejectReason) (rule : Option RuleIdx)
  /-- Passed to the duplicate step, with the fields of its SCAN record (R81). -/
  | pass (rule : Option RuleIdx) (tag : Fin 16) (checked : Bool) (value : Option ValuePart)
  deriving DecidableEq, Repr

/-- The value is above the limit (R74). -/
def aboveLimit (value : Option ValuePart) (limit : Nat) : Bool :=
  match value with
  | some v => decide (limit < v.value)
  | none => false

/-- Steps 2 to 5 under a matched entry (R69, R71, R72, R74). -/
def CodeRule.judge (r : CodeRule) (i : RuleIdx) (limit : Nat) (code : Code) : Judgement :=
  if r.reject then .reject .rule (some i)
  else if r.mod10 && !mod10Passes code.chars then .reject .check (some i)
  else if aboveLimit (r.valuePart code.chars) limit then .reject .valueLimit (some i)
  else .pass (some i) r.tag r.mod10 (r.valuePart code.chars)

/-- Steps 1 to 5 for a code under the rule table and the lane's settings (R67, R68). -/
def judge (rules : Vector CodeRule 16) (set : LaneSet) (code : Code) : Judgement :=
  match matchingRule rules code with
  | some i => rules[i].judge i set.valueLimit code
  | none => if set.strict then .reject .noRule none else .pass none 0 false none

/-! ### The duplicate filter (R77 to R80) -/

/-- The code is a duplicate: the window runs and the code equals the last accepted one (R78). -/
def DupFilter.isDuplicate (f : DupFilter) (code : Code) : Bool := f.window.isSome && decide (f.last = some code)

/-- The window set at `now` with the lane's W; with W = 0 it expires at once (R79, R80, Log 16). -/
def windowFrom (now : Time) (w : Nat) : Option Time := if w = 0 then none else some (after now w)

/-- A duplicate restarts the window (R78). -/
def LaneView.restartWindow (v : LaneView) : LaneView :=
  v.setFilter { v.ln.filter with window := windowFrom v.now v.ln.set.dupWindow }

/-- The filter set by a taken SCAN record (R79). -/
def LaneView.setFilterTo (v : LaneView) (code : Code) : LaneView :=
  v.setFilter { last := some code, window := windowFrom v.now v.ln.set.dupWindow }

/-! ### Outcomes (R81 to R84) -/

/-- The counter of a reject reason (R82). -/
def RejectReason.counter : RejectReason → CounterName
  | .check => .checkFail
  | .noRule => .rejected
  | .rule => .rejected
  | .valueLimit => .rejected

/-- A rejected code, in the order of R83. -/
def LaneView.rejected (v : LaneView) (code : Code) (reason : RejectReason) (rule : Option RuleIdx) : LaneView :=
  let counted := v.raise reason.counter
  let b := RecordBody.reject code reason rule
  if counted.takes b then (counted.offer b).confirmTone .bad
  else ((counted.offer b).raise .overrun).confirmTone .bad

/-- An accepted code that is not a duplicate, in the order of R83. -/
def LaneView.accepted (v : LaneView) (code : Code) (rule : Option RuleIdx) (tag : Fin 16) (checked : Bool)
    (value : Option ValuePart) : LaneView :=
  let b := RecordBody.scan code rule tag checked (decide (v.ln.keys.keylock = .training)) value
  if v.takes b then (((v.offer b).raise .good).setFilterTo code).confirmTone .good
  else ((v.offer b).raise .overrun).confirmTone .bad

/-- A duplicate is suppressed (R78). -/
def LaneView.suppressed (v : LaneView) : LaneView := (v.raise .duplicate).restartWindow

/-- The outcome of a code, COUNTER_FULL being evaluated at the close of the event (R67, R83, R138). -/
def LaneView.checkCode (v : LaneView) (rules : Vector CodeRule 16) (code : Code) : LaneView :=
  let outcome :=
    match judge rules v.ln.set code with
    | .reject reason rule => v.rejected code reason rule
    | .pass rule tag checked value =>
      if v.ln.filter.isDuplicate code then v.suppressed else v.accepted code rule tag checked value
  outcome.closeCounters v.ln.counters

/-! ### RULE and RULEQ (R64, R66) -/

/-- The RULE request: the whole entry is replaced, or the request is refused (R64). -/
def State.writeRule (s : State) (index : Byte) (f : RuleFields) : State × ReplyCode :=
  if h : index.toNat < 16 then
    match f.store with
    | some r => ({ s with rules := s.rules.set index.toNat r }, .done)
    | none => (s, .badField)
  else (s, .badField)

/-- The expiry of a running duplicate window: it stops and the last accepted code is kept (R77). -/
def LaneView.windowExpiry (v : LaneView) : LaneView :=
  if expired v.now v.ln.filter.window then v.setFilter { v.ln.filter with window := none } else v

/-- DUPLICATE_WINDOW_EXPIRY (R77). -/
def execDuplicateWindowExpiry (lane : LaneId) (s : State) : Host.Outcome State Fault Refusal :=
  .next (s.laneEvent lane LaneView.windowExpiry)

end Sys2Proof.Machine
end

