-- ==== Sys2Proof/Machine/Flags.lean ====
section
/-!
DEFINITION. The derived statuses that rules test: the release tests and the failing set, the ambiguity of a sample, the
pressed status, the output lines that follow other state, and whether any record waits.
-/

namespace Sys2Proof.Machine

/-! ### Release tests (R112) -/

/-- NO_KEYS: the down list holds no position other than the lane's release key (R112). -/
def Lane.noKeys (d : Lane) : Bool := d.keys.downList.all fun p => decide (some p = d.cfg.releaseKey)

/-- The seven release tests in the order of R112, each as it stands. -/
def Lane.testResults (d : Lane) : List Bool :=
  [decide (d.keys.keylock = .operate) || decide (d.keys.keylock = .manager),
    decide (d.keys.keylock = .manager),
    d.drawer.flags.getLsbD 0, d.drawer.flags.getLsbD 1, d.drawer.flags.getLsbD 2, d.drawer.flags.getLsbD 3,
    d.noKeys]

/-- The set of release tests that are true, bit 0 being KEY_OPERATE (R112, R190). -/
def Lane.trueTests (d : Lane) : TestSet :=
  BitVec.ofNat 7 ((d.testResults.zipIdx.map fun t => if t.1 then 2 ^ t.2 else 0).sum)

/-- The failing set of a mask: the tests it selects that are false (R112). -/
def Lane.failing (d : Lane) (mask : TestSet) : TestSet := mask &&& ~~~ d.trueTests

/-! ### Matrix (R17, R24) -/

/-- The row of a position (00_scope.md, Conventions). -/
def rowOf (p : KeyPos) : Nat := p.val / 16

/-- The column of a position (00_scope.md, Conventions). -/
def colOf (p : KeyPos) : Nat := p.val % 16

/-- The position lies inside the configured matrix (R17). -/
def LaneCfg.inMatrix (c : LaneCfg) (p : KeyPos) : Bool := decide (rowOf p < c.rows) && decide (colOf p < c.cols)

/-- The raw-down set of a sample: the closed positions inside the configured matrix (R17, R18). -/
def LaneCfg.rawDown (c : LaneCfg) (raw : BitVec 128) (p : KeyPos) : Bool := c.inMatrix p && raw.getLsbD p.val

/-- The position at a row and a column. -/
def posAt (row : Fin 8) (col : Fin 16) : KeyPos := ⟨row.val * 16 + col.val, by omega⟩

/-- The columns at which both rows are down. -/
def sharedColumns (down : KeyPos → Bool) (r₁ r₂ : Fin 8) : List (Fin 16) :=
  (List.finRange 16).filter fun c => down (posAt r₁ c) && down (posAt r₂ c)

/-- The sample is ambiguous: two rows are both down at two columns (R24). -/
def ambiguous (down : KeyPos → Bool) : Bool :=
  (List.finRange 8).any fun r₁ =>
    (List.finRange 8).any fun r₂ => decide (r₁ < r₂) && decide (2 ≤ (sharedColumns down r₁ r₂).length)

/-! ### Queues, pressed and ATTN (R105, R157, R160) -/

/-- The lane is pressed: its count is at or above its high-water mark (R105). -/
def Lane.pressed (d : Lane) : Bool := decide (d.set.high ≤ d.count)

/-- The lane queue holds a record, so the lane is a candidate of the arbiter (R157). -/
def Lane.waiting (d : Lane) : Bool := decide (d.queue.records ≠ [])

/-- Some record waits in the part, alarm or lane (R160). -/
def State.waiting (s : State) : Bool := decide (s.alarms ≠ []) || s.lanes.toList.any Lane.waiting

/-- The number of records left in the part (R155). -/
def State.remaining (s : State) : Nat := s.alarms.length + (s.lanes.toList.map Lane.count).sum

/-- The number of SCAN and REJECT records of a list (R97, R100). -/
def slotCount (records : List LaneRecord) : Nat := (records.map fun r => r.body.slots).sum

/-! ### Output lines that follow other state (R15, R53, R163) -/

/-- KCLKn and KLATn clock the key chain exactly while the lane is ON (R15). -/
def Lane.chainClocked (d : Lane) : Bool := d.on

/-- What STXn carries: the byte of a running check, or the command at the head of the queue, or mark (R15, R53, R163). -/
inductive StxLine where
  | mark
  | command (c : ScanCmd)
  | checkByte (b : Byte)
  deriving DecidableEq, Repr

/-- The line STXn of a lane (R15, R53, R60, R163). -/
def Lane.stx (d : Lane) : StxLine :=
  if !d.on then .mark
  else if d.checking then
    match d.checker.sending with
    | some b => .checkByte b
    | none => .mark
  else
    match d.port.cmds with
    | c :: _ => .command c
    | [] => .mark

/-- The command byte of a scanner command (R53, R190). -/
def ScanCmd.byte : ScanCmd → Byte
  | .enable .enabled => 0x45
  | .enable .disabled => 0x44
  | .tone .good => 0x47
  | .tone .bad => 0x42

/-- The four characters of a scanner command frame (R53, R190). -/
def ScanCmd.frame (c : ScanCmd) : List Byte := [0x01, c.byte, 0x17, c.byte]

end Sys2Proof.Machine
end

