-- ==== Sys2Proof/Machine/LineCheck.lean ====
section
/-!
DEFINITION. Chapter 9: the line checker: the byte sequence, the sent window, the comparison in HUNT and LOCKED, and the
start, the insert and the end of a check.
-/

namespace Sys2Proof.Machine

/-! ### The byte sequence (R163) -/

/-- One shift of the sequence register: the exclusive-or of bits 0, 2, 3 and 5 enters at bit 15 (R163). -/
def shiftSequence (r : BitVec 16) : BitVec 16 :=
  (r >>> 1) ||| (if r.getLsbD 0 ^^ r.getLsbD 2 ^^ r.getLsbD 3 ^^ r.getLsbD 5 then 0x8000 else 0)

/-- The eight shifts that make one byte of the sequence (R163). -/
def nextSequence (r : BitVec 16) : BitVec 16 := (List.range 8).foldl (fun x _ => shiftSequence x) r

/-! ### Comparison (R164 to R166) -/

/-- The lock is lost (R166). -/
def LineChecker.loseLock (c : LineChecker) : LineChecker :=
  { c with state := .hunt, lockLosses := bump16 c.lockLosses, run := 0, history := [] }

/-- An outcome appended to the comparison history, which keeps the last 16 (R166). -/
def recent (history : List Bool) (isMatch : Bool) : List Bool :=
  (if Config.windowSize ≤ history.length then history.tail else history) ++ [isMatch]

/-- An outcome enters the comparison history, and four mismatches lose the lock (R166). -/
def LineChecker.enterOutcome (c : LineChecker) (isMatch : Bool) : LineChecker :=
  let d : LineChecker := { c with history := recent c.history isMatch }
  if Config.lossMismatches ≤ (d.history.filter fun m => !m).length then d.loseLock else d

/-- A byte arrival in LOCKED (R166). -/
def LineChecker.compareLocked (c : LineChecker) (l : LaneId) (b : Byte) : LineChecker :=
  match c.sent with
  | [] => (c.raise l .mismatch).enterOutcome false
  | e :: rest =>
    let d : LineChecker := { c with sent := rest }
    if b = e then (d.raise l .matched).enterOutcome true else (d.raise l .mismatch).enterOutcome false

/-- A run of eight locks the check (R165). -/
def LineChecker.lockAtEight (c : LineChecker) : LineChecker :=
  if Config.lockRun ≤ c.run then { c with state := .locked, run := 0, history := [] } else c

/-- A byte arrival in HUNT with run 0: the first equal entry from the oldest is taken (R165). -/
def LineChecker.search (c : LineChecker) (l : LaneId) (b : Byte) : LineChecker :=
  match c.sent.dropWhile fun e => decide (e ≠ b) with
  | [] => c
  | _ :: rest => LineChecker.raise { c with sent := rest, run := 1 } l .matched

/-- A byte arrival in HUNT with a run: the oldest entry is compared (R165). -/
def LineChecker.follow (c : LineChecker) (l : LaneId) (b : Byte) : LineChecker :=
  match c.sent with
  | [] => { c with run := 0 }
  | e :: rest =>
    if b = e then LineChecker.raise { c with sent := rest, run := c.run + 1 } l .matched else { c with run := 0 }

/-- A byte arrival while a check runs (R165, R166). -/
def LineChecker.compare (c : LineChecker) (l : LaneId) (b : Byte) : LineChecker :=
  match c.state with
  | .idle => c
  | .hunt => (if c.run = 0 then c.search l b else c.follow l b).lockAtEight
  | .locked => c.compareLocked l b

/-- A full window discards its oldest entry, in LOCKED as a mismatch (R164). -/
def LineChecker.discardOldest (c : LineChecker) (l : LaneId) : LineChecker :=
  let d : LineChecker := { c with sent := c.sent.tail }
  if c.state = .locked then (d.raise l .mismatch).enterOutcome false else d

/-- A byte joins the sent window at the beginning of its transmission (R164). -/
def LineChecker.join (c : LineChecker) (l : LaneId) (b : Byte) : LineChecker :=
  let d := if c.sent.length < Config.windowSize then c else c.discardOldest l
  { d with sent := d.sent ++ [b] }

/-- The beginning of a byte's transmission, in the order of R163. -/
def LineChecker.beginByte (c : LineChecker) (l : LaneId) : LineChecker :=
  let reg := nextSequence c.reg
  let b : Byte := reg.setWidth 8
  let joined := (LineChecker.raise { c with reg := reg } l .sent).join l b
  { joined with sending := some (if c.insert then b ^^^ 0xFF else b), insert := false }

/-! ### Start, insert and end (R162, R168 to R170) -/

/-- The duration taken for a field: 0 as 1 and above 60 as 60 (R162). -/
def checkDuration (b : Byte) : Nat := clamp 1 60 b.toNat

/-- The checker as a check starts, before its first byte (R162 steps 2 and 3). -/
def LineChecker.started (c : LineChecker) (now : Time) (seconds : Nat) : LineChecker :=
  { LineChecker.reset with
    state := .hunt
    timer := some (after now (seconds * 1000))
    reg := Config.checkSeed
    freeIdx := c.freeIdx }

/-- The scanner port gives up its line: CHECK is added, the command queue is emptied and a frame in assembly is
discarded; the line state stays (R60, R162 step 1). DESIGN CHOICE: R60 has the receiver leave IDLE for the check comparison,
a state R45 does not name; the model's receiver stays IDLE and the check's own state routes the bytes (Log 26). -/
def ScannerPort.giveUp (p : ScannerPort) : ScannerPort :=
  { p with reasons := { p.reasons with check := true }, cmds := [], rx := .reset }

/-- A check starts, in the order of R162. -/
def LaneView.startCheck (v : LaneView) (seconds : Nat) : LaneView :=
  (v.setPort v.ln.port.giveUp).setChecker ((v.ln.checker.started v.now seconds).beginByte v.id)

/-- The checker with its transmission cut, its timer stopped and a pending insert dropped (R170 step 1). -/
def LineChecker.cut (c : LineChecker) : LineChecker := { c with sending := none, timer := none, insert := false }

/-- The checker idle with its window, run and history emptied; the tallies keep their values (R170 step 3). -/
def LineChecker.ended (c : LineChecker) : LineChecker := { c with state := .idle, sent := [], run := 0, history := [] }

/-- The scanner port takes back its line and re-states the enable state (R60, R170 step 4). -/
def ScannerPort.takeBack (p : ScannerPort) : ScannerPort :=
  ScannerPort.restate { p with reasons := { p.reasons with check := false }, rx := .reset }

/-- Steps 1 to 3 of R170, whatever the end cause: the byte is cut, the CHECK record is offered while the check still counts
as running, and the check becomes idle. -/
def LaneView.closeCheck (v : LaneView) (cause : EndCause) : LaneView :=
  let w := (v.setChecker v.ln.checker.cut).offer (v.ln.checker.report cause)
  w.setChecker w.ln.checker.ended

/-- A check ends with cause TIME or HOST, in the order of R170. -/
def LaneView.endCheck (v : LaneView) (cause : EndCause) : LaneView :=
  let w := v.closeCheck cause
  w.setPort w.ln.port.takeBack

/-- The CHECK request with action start, on an ON lane (R162). -/
def LaneView.checkStart (v : LaneView) (duration : Byte) : LaneView × ReplyCode :=
  if v.ln.checking then (v, .busy)
  else
    (v.startCheck (checkDuration duration),
      if checkDuration duration = duration.toNat then .done else .clamped)

/-- The CHECK request with action stop, on an ON lane (R169). -/
def LaneView.checkStop (v : LaneView) : LaneView × ReplyCode :=
  if v.ln.checking then (v.endCheck .host, .done) else (v, .notReady)

/-- The CHECK request with action insert, on an ON lane (R168). -/
def LaneView.checkInsert (v : LaneView) : LaneView × ReplyCode :=
  if !v.ln.checking then (v, .notReady)
  else if v.ln.checker.insert then (v, .busy)
  else (v.setChecker { v.ln.checker with insert := true }, .done)

/-- The completion of a check byte: the next byte begins (R163). -/
def LaneView.checkByteSent (v : LaneView) : LaneView :=
  if v.ln.on && v.ln.checking then v.setChecker (v.ln.checker.beginByte v.id) else v

/-- The expiry of the check timer (R169). -/
def LaneView.checkTimerExpiry (v : LaneView) : LaneView :=
  if v.ln.on && v.ln.checking && expired v.now v.ln.checker.timer then v.endCheck .time else v

/-- CHECK_BYTE_SENT (R163). -/
def execCheckByteSent (lane : LaneId) (s : State) : Host.Outcome State Fault Refusal :=
  .next (s.laneEvent lane LaneView.checkByteSent)

/-- CHECK_TIMER_EXPIRY (R169, R170). -/
def execCheckTimerExpiry (lane : LaneId) (s : State) : Host.Outcome State Fault Refusal :=
  .next (s.laneEvent lane LaneView.checkTimerExpiry)

end Sys2Proof.Machine
end

