-- ==== Sys2Proof/Machine/Power.lean ====
section
/-!
DEFINITION. Chapter 1: the lane power controller: the POWER request, the settle milestones, entering ON, the power-fault
trip and leaving the powered states.
-/

namespace Sys2Proof.Machine

/-- The lane is SETTLING or ON (R1). -/
def Lane.powered (d : Lane) : Bool := decide (d.power.state = .settling) || decide (d.power.state = .on)

/-- The milestone after a progress, none after milestone 7 (R4). -/
def nextMilestone : Option Milestone → Option Milestone
  | none => some 0
  | some m => if h : m.val + 1 < 8 then some ⟨m.val + 1, h⟩ else none

/-- The expiry point of a milestone, measured from the settle start time (R4). -/
def milestonePoint (start : Time) (m : Milestone) : Time := after start Config.milestoneTimes[m]

/-- The progress a LANE record carries at leaving: as it stands in SETTLING and ON, none elsewhere (R6, R11). -/
def Lane.leavingProgress (d : Lane) : Option Milestone := if d.powered then d.power.progress else none

/-- The lane leaves for OFF or TRIPPED: PENn is deasserted, the settle timer is stopped and the lane-local reset applied,
the start time kept (R1, R6, R7, R9). -/
def Lane.leave (d : Lane) (dest : LaneState) : Lane :=
  { d.localReset with
    power := { state := dest, progress := none, start := d.power.start, timer := none, pen := false } }

/-- The lane leaves for OFF or TRIPPED: a running check ends first with end cause LANE, its CHECK record offered while the
check runs and the lane is ON (R170, Log 9); then the lane is reset and the LANE record offered (R6, R7, R11). -/
def LaneView.leaveFor (v : LaneView) (dest : LaneState) : LaneView :=
  let w := if v.ln.checking then v.closeCheck .lane else v
  LaneView.offer { w with ln := w.ln.leave dest } (.lane dest v.ln.leavingProgress)

/-- The lane enters OFF (R6). -/
def LaneView.enterOff (v : LaneView) : LaneView := v.leaveFor .off

/-- The lane trips: the POWER_TRIP alarm is raised, then come the records of the leaving (R7). -/
def LaneView.trip (v : LaneView) : LaneView := (v.alarm .powerTrip).leaveFor .tripped

/-- The power controller as SETTLING is entered (R3). -/
def enteringSettling (now : Time) : PowerCtl :=
  { state := .settling, progress := none, start := some now, timer := some (milestonePoint now 0), pen := true }

/-- The lane enters SETTLING; a PFLn found asserted as PENn is asserted trips it at once (R3). -/
def LaneView.enterSettling (v : LaneView) : LaneView :=
  let w := (v.setPower (enteringSettling v.now)).offer (.lane .settling none)
  if w.ln.pins.pfl then w.trip else w

/-- The state of a condition's owner (R130, R134). -/
def Lane.ownerState (d : Lane) : Condition → Bool
  | .scannerAbsent => d.port.brk.absent
  | .scannerHeld => d.port.reasons.flow
  | .ghost => d.keys.ghost
  | .rollover => d.keys.rollover
  | .keylockFault => d.keys.keylockFault
  | .drawerLong => decide (d.drawer.state = .openLong)
  | .driverFault => d.drawer.fault
  | .counterFull => d.counters.full

/-- The conditions in condition order (R130). -/
def Condition.all : List Condition :=
  [.scannerAbsent, .scannerHeld, .ghost, .rollover, .keylockFault, .drawerLong, .driverFault, .counterFull]

/-- The monitor evaluates each condition from the state of its owner, in condition order (R134). -/
def LaneView.evaluateConditions (v : LaneView) : LaneView :=
  Condition.all.foldl (fun w c => w.handOver c (w.ln.ownerState c)) v

/-- The report timer set to the interval from now (R142). -/
def LaneView.startReport (v : LaneView) : LaneView :=
  v.setReport (some (after v.now (v.ln.set.interval * 1000)))

/-- The scanner port as it starts at entering ON: receiver IDLE, the break detector measuring from the level SRXn shows,
the enable state re-stated (R5 step 3, R51, R56). -/
def Lane.startedPort (d : Lane) (now : Time) : ScannerPort :=
  ScannerPort.restate
    { d.port with
      rx := .reset
      brk := { absent := false, held := some { level := d.pins.srx, since := now }, timer := some (after now Config.breakTime) } }

/-- The key matrix scanner as it starts at entering ON (R5 step 2, R18). -/
def Lane.startedKeys (d : Lane) (now : Time) : KeyScanner :=
  { KeyScanner.reset with nextSample := some (after now d.cfg.period) }

/-- The drawer controller as it starts at entering ON: the stability timer set for the level DSNn shows (R5 step 4,
R108). -/
def Lane.startedDrawer (d : Lane) (now : Time) : Drawer :=
  { d.drawer with
    state := .unsensed
    sense := none
    stability := some { point := after now Config.senseTime, level := d.pins.dsn } }

/-- The blocks of the lane start and the lane state becomes ON (R5 steps 2 to 4). -/
def LaneView.startBlocks (v : LaneView) : LaneView :=
  { v with
    ln :=
      { v.ln with
        power := { v.ln.power with state := .on }
        keys := v.ln.startedKeys v.now
        port := v.ln.startedPort v.now
        drawer := v.ln.startedDrawer v.now } }

/-- The lane enters ON, in the order of R5. The LANE ON record is taken before the blocks start, so that a FLOW it adds
reaches the port and the monitor at their own steps (Log 10). -/
def LaneView.enterOn (v : LaneView) : LaneView :=
  let w := ((v.offer (.lane .on v.ln.power.progress)).startBlocks).evaluateConditions
  if w.ln.set.counterMode = .auto then w.startReport else w

/-- One milestone is passed at the expiry of the settle timer; reaching the requirement while SETTLING enters ON (R4). -/
def LaneView.passMilestone (v : LaneView) : LaneView :=
  match v.ln.power.start, nextMilestone v.ln.power.progress with
  | some start, some m =>
    let w := v.setPower
      { v.ln.power with progress := some m, timer := (nextMilestone (some m)).map (milestonePoint start) }
    if v.ln.power.state = .settling ∧ m = v.ln.cfg.settle then w.enterOn else w
  | _, _ => v

/-- The expiry of the settle timer, which runs in SETTLING and ON (R4). -/
def LaneView.settleExpiry (v : LaneView) : LaneView :=
  if v.ln.powered && expired v.now v.ln.power.timer then v.passMilestone else v

/-- The POWER request with value on (R2). -/
def LaneView.powerOn (v : LaneView) : LaneView × ReplyCode :=
  match v.ln.power.state with
  | .off => (v.enterSettling, .done)
  | .settling => (v, .done)
  | .on => (v, .done)
  | .tripped => (v, .faulted)

/-- The POWER request with value off (R2). -/
def LaneView.powerOff (v : LaneView) : LaneView × ReplyCode :=
  match v.ln.power.state with
  | .off => (v, .done)
  | .settling => (v.enterOff, .done)
  | .on => if v.ln.drawer.state = .releasing then (v, .busy) else (v.enterOff, .done)
  | .tripped => (v.enterOff, .done)

/-- The view with another PFLn level. -/
def LaneView.setPfl (v : LaneView) (asserted : Bool) : LaneView := v.setPins { v.ln.pins with pfl := asserted }

/-- PFL_ASSERT: PFLn is asserted; a SETTLING or ON lane trips, any other state does not hear it (R7, R16). -/
def execPflAssert (lane : LaneId) (s : State) : Host.Outcome State Fault Refusal :=
  .next ((s.onLane lane fun v => v.setPfl true).laneEvent lane fun v => if v.ln.powered then v.trip else v)

/-- PFL_DEASSERT: PFLn is deasserted; no effect on the lane state in any state, only the level changes (R7). -/
def execPflDeassert (lane : LaneId) (s : State) : Host.Outcome State Fault Refusal :=
  .next (s.onLane lane fun v => v.setPfl false)

/-- SETTLE_EXPIRY (R4, R5). -/
def execSettleExpiry (lane : LaneId) (s : State) : Host.Outcome State Fault Refusal :=
  .next (s.laneEvent lane LaneView.settleExpiry)

end Sys2Proof.Machine
end

