-- ==== Sys2Proof/Machine/Counters.lean ====
section
/-!
DEFINITION. Chapter 7: the counters' report timer and the COUNTS request. The monitor's hand-over and the close of an
event are shared operations of Ops.
-/

namespace Sys2Proof.Machine

/-- The COUNTS record of a report expiry (R143, R144). -/
def Lane.countsRecord (d : Lane) : RecordBody := .counts d.counters d.set.interval

/-- The expiry of the report timer: a taken record zeroes the counters, a refused one keeps them; the timer moves on by
the interval from the expiry just passed (R143). -/
def LaneView.reportExpiry (v : LaneView) : LaneView :=
  match v.ln.reportTimer with
  | none => v
  | some point =>
    if v.ln.on && reached v.now point then
      let offered := v.offer v.ln.countsRecord
      let counted := if v.takes v.ln.countsRecord then offered.setCounters .zero else offered
      (counted.setReport (some (after point (v.ln.set.interval * 1000)))).closeCounters v.ln.counters
    else v

/-- The COUNTS request, its clear option in its list: the reply code, and the clear of MANUAL mode (R145). -/
def LaneView.countsRequest (v : LaneView) (clear : Bool) : LaneView × ReplyCode :=
  match v.ln.set.counterMode, clear with
  | .manual, false => (v, .done)
  | .manual, true => ((v.setCounters .zero).closeCounters v.ln.counters, .done)
  | .auto, false => (v, .done)
  | .auto, true => (v, .clamped)

/-- REPORT_TIMER_EXPIRY (R143). -/
def execReportTimerExpiry (lane : LaneId) (s : State) : Host.Outcome State Fault Refusal :=
  .next (s.laneEvent lane LaneView.reportExpiry)

end Sys2Proof.Machine
end

