-- ==== Sys2Proof/Machine/Drawer.lean ====
section
/-!
DEFINITION. Chapter 6: the drawer controller: the debounced sense, the release checks and the pulse, the drawer state
machine, the driver fault, the lane flags, and the device-wide lockdown latch.
-/

namespace Sys2Proof.Machine

/-! ### Entering OPEN and AWAIT_OPEN (R122, R123) -/

/-- A DRAWER record without fields of its own is offered, with the drawer state as it stands (R129). -/
def LaneView.offerDrawer (v : LaneView) (e : DrawerEvent) : LaneView :=
  v.offer (.drawer e v.ln.drawer.state none none none)

/-- The DRAWER reason is added to or removed from the disable-reason set (R59). -/
def LaneView.setDrawerReason (v : LaneView) (present : Bool) : LaneView :=
  v.setReasons { v.ln.port.reasons with drawer := present }

/-- Entering OPEN, by any path (R123). -/
def LaneView.enterOpen (v : LaneView) : LaneView :=
  let w := v.setDrawer
    { v.ln.drawer with
      state := .opened
      openStart := some v.now
      openLong := some (after v.now (v.ln.set.openLong * 1000)) }
  if w.ln.set.inhibitOpen then w.setDrawerReason true else w

/-- Going on from AWAIT_OPEN into OPEN: the confirm timer stops and a DRAWER OPENED record is offered (R122). -/
def LaneView.openFromAwait (v : LaneView) : LaneView :=
  (v.setDrawer { v.ln.drawer with confirm := none }).enterOpen.offerDrawer .opened

/-- DRVn is turned off and the pulse timer stops (R117, R119, R127). -/
def LaneView.cutPulse (v : LaneView) : LaneView := v.setDrawer { v.ln.drawer with drv := false, pulse := none }

/-- Entering AWAIT_OPEN; a sense that is open goes on into OPEN within the event (R122). -/
def LaneView.enterAwaitOpen (v : LaneView) : LaneView :=
  let w := v.setDrawer
    { v.ln.drawer with state := .awaitOpen, confirm := some (after v.now v.ln.cfg.confirm) }
  if w.ln.drawer.sense = some .opened then w.openFromAwait else w

/-! ### Release checks (R113 to R116) -/

/-- The release check with a mask: DONE for a grant, otherwise the outcome of the first step that fails, and the failing
set of a DENIED outcome (R113). -/
def LaneView.releaseCheck (v : LaneView) (mask : TestSet) : ReplyCode × TestSet :=
  if !v.ln.on then (.notReady, 0)
  else if v.lockdown then (.lockedDown, 0)
  else if v.ln.drawer.fault then (.faulted, 0)
  else if v.ln.drawer.state ≠ .closed then (.busy, 0)
  else if v.ln.failing mask ≠ 0 then (.denied, v.ln.failing mask)
  else (.done, 0)

/-- A granted release, in the order of R116. -/
def LaneView.grant (v : LaneView) (source : ReleaseSource) : LaneView :=
  (v.setDrawer
    { v.ln.drawer with
      flags := v.ln.drawer.flags &&& ~~~ v.ln.set.consume
      state := .releasing
      drv := true
      pulse := some (after v.now v.ln.cfg.pulse) }).offer (.drawer .granted .releasing (some source) none none)

/-- The RELEASE request: the check with the host mask; a grant takes place before the reply (R114). -/
def LaneView.hostRelease (v : LaneView) : LaneView × ReplyCode × TestSet :=
  let outcome := v.releaseCheck v.ln.set.hostMask
  (if outcome.1 = .done then v.grant .host else v, outcome.1, outcome.2)

/-- A local release attempt: the check with the key mask; a refusal offers a DRAWER REFUSED record (R115). -/
def LaneView.localAttempt (v : LaneView) : LaneView :=
  let outcome := v.releaseCheck v.ln.set.keyMask
  if outcome.1 = .done then v.grant .key
  else v.offer (.drawer .refused v.ln.drawer.state none (some outcome) none)

/-! ### The drawer state machine (R109, R117, R119, R121 to R125) -/

/-- The first sense change of an ON period: a DRAWER INITIAL record with the new state (R109). -/
def LaneView.firstSense (v : LaneView) (level : Sense) : LaneView :=
  match level with
  | .closed => (v.setDrawer { v.ln.drawer with state := .closed, openStart := none }).offerDrawer .initial
  | .opened => v.enterOpen.offerDrawer .initial

/-- A forced opening (R125). -/
def LaneView.forcedOpening (v : LaneView) : LaneView := (v.enterOpen.offerDrawer .forced).alarm .forcedOpen

/-- The open duration now: the time since the open start time, on the wrapping time base (R124, Log 17). -/
def LaneView.openDuration (v : LaneView) : Time := v.now - v.ln.drawer.openStart.getD v.now

/-- A sense change to closed in OPEN or OPEN_LONG ends the opening, in the order of R124. -/
def LaneView.closing (v : LaneView) : LaneView :=
  let recorded :=
    (v.setDrawer { v.ln.drawer with openLong := none, state := .closed }).offer
      (.drawer .closed .closed none none (some v.openDuration))
  let cleared := recorded.setDrawer { recorded.ln.drawer with openStart := none }
  let enabled := cleared.setDrawerReason false
  if v.ln.drawer.state = .openLong then enabled.handOver .drawerLong false else enabled

/-- A sense change handed to the drawer state machine (R121). -/
def LaneView.senseChange (v : LaneView) (level : Sense) : LaneView :=
  match v.ln.drawer.state, level with
  | .unsensed, level => v.firstSense level
  | .closed, .opened => v.forcedOpening
  | .closed, .closed => v
  | .releasing, _ => v
  | .awaitOpen, .opened => v.openFromAwait
  | .awaitOpen, .closed => v
  | .opened, .closed => v.closing
  | .openLong, .closed => v.closing
  | .opened, .opened => v
  | .openLong, .opened => v

/-- The expiry of the sense stability timer of an ON lane (R108). -/
def LaneView.stabilityExpiry (v : LaneView) : LaneView :=
  match v.ln.drawer.stability with
  | none => v
  | some st =>
    if v.ln.on && reached v.now st.point then
      if v.ln.drawer.sense = some st.level then v.setDrawer { v.ln.drawer with stability := none }
      else (v.setDrawer { v.ln.drawer with stability := none, sense := some st.level }).senseChange st.level
    else v

/-- A change of DSNn restarts the stability timer for the new level; DSNn is heard while the lane is ON (R16, R108). -/
def LaneView.dsnChange (v : LaneView) (level : Sense) : LaneView :=
  if v.ln.on then
    v.setDrawer { v.ln.drawer with stability := some { point := after v.now Config.senseTime, level := level } }
  else v

/-- The expiry of the pulse timer: the debounced sense decides the next state (R117). -/
def LaneView.pulseExpiry (v : LaneView) : LaneView :=
  if decide (v.ln.drawer.state = .releasing) && expired v.now v.ln.drawer.pulse then
    if v.ln.drawer.sense = some .opened then v.cutPulse.enterOpen.offerDrawer .opened
    else v.cutPulse.enterAwaitOpen
  else v

/-- An assertion of DOCn, heard during RELEASING alone: the driver fault, in the order of R119. -/
def LaneView.docAssert (v : LaneView) : LaneView :=
  if v.ln.drawer.state = .releasing then
    let latched := v.cutPulse.setDrawer { v.cutPulse.ln.drawer with fault := true }
    (latched.alarm .driverFault).enterAwaitOpen.handOver .driverFault true
  else v

/-- The expiry of the confirm timer: the drawer returns to CLOSED (R122). -/
def LaneView.confirmExpiry (v : LaneView) : LaneView :=
  if decide (v.ln.drawer.state = .awaitOpen) && expired v.now v.ln.drawer.confirm then
    (v.setDrawer { v.ln.drawer with state := .closed, confirm := none, openStart := none }).offerDrawer .notOpened
  else v

/-- The expiry of the open-long timer (R123). -/
def LaneView.openLongExpiry (v : LaneView) : LaneView :=
  if decide (v.ln.drawer.state = .opened) && expired v.now v.ln.drawer.openLong then
    ((v.setDrawer { v.ln.drawer with state := .openLong, openLong := none }).offerDrawer .openLong).handOver
      .drawerLong true
  else v

/-! ### Requests of the drawer: FLAGS and CLRFAULT (R111, R120) -/

/-- FLAGS: the clear list is cleared, then the set list is set (R111). -/
def LaneView.changeFlags (v : LaneView) (setList clearList : FlagSet) : LaneView :=
  v.setDrawer { v.ln.drawer with flags := (v.ln.drawer.flags &&& ~~~ clearList) ||| setList }

/-- CLRFAULT: a set latch is cleared and the fall of DRIVER_FAULT handed on; a clear one changes nothing (R120). -/
def LaneView.clearFault (v : LaneView) : LaneView :=
  if v.ln.drawer.fault then
    (v.setDrawer { v.ln.drawer with fault := false }).handOver .driverFault false
  else v

/-! ### The lockdown latch (R127, R128) -/

/-- A lockdown assertion reaches one lane: a pulse in progress is cut and the drawer enters AWAIT_OPEN (R127 step 3). -/
def LaneView.lockdownCut (v : LaneView) : LaneView :=
  if v.ln.drawer.state = .releasing then v.cutPulse.enterAwaitOpen else v

/-- An assertion event of LKD: the latch, the LOCKDOWN alarm, then every lane in lane order (R127). -/
def State.lockdownEvent (s : State) : State :=
  (List.finRange 8).foldl (fun t l => t.onLane l LaneView.lockdownCut)
    { s with lockdown := true, alarms := raiseAlarm s.timeBase .lockdown none s.alarms, attn := true }

/-- LKD_ASSERT: the pin's level is asserted; heard as an assertion event when the level held was deasserted (R127). -/
def execLkdAssert (s : State) : Host.Outcome State Fault Refusal :=
  .next
    (if s.held || s.lkdLevel then { s with lkdPin := true }
    else State.lockdownEvent { s with lkdPin := true, lkdLevel := true })

/-- LKD_DEASSERT: only the level held changes (R127). -/
def execLkdDeassert (s : State) : Host.Outcome State Fault Refusal :=
  .next (if s.held then { s with lkdPin := false } else { s with lkdPin := false, lkdLevel := false })

/-- DSN_CHANGE: DSNn takes another level, and an ON lane restarts its stability timer (R108). -/
def execDsnChange (lane : LaneId) (level : Sense) (s : State) : Host.Outcome State Fault Refusal :=
  .next
    (if s.lanes[lane].pins.dsn = level then s
    else (s.onLane lane fun v => v.setPins { v.ln.pins with dsn := level }).laneEvent lane fun v => v.dsnChange level)

/-- SENSE_STABILITY_EXPIRY (R108, R109, R121). -/
def execSenseStabilityExpiry (lane : LaneId) (s : State) : Host.Outcome State Fault Refusal :=
  .next (s.laneEvent lane LaneView.stabilityExpiry)

/-- PULSE_EXPIRY (R117). -/
def execPulseExpiry (lane : LaneId) (s : State) : Host.Outcome State Fault Refusal :=
  .next (s.laneEvent lane LaneView.pulseExpiry)

/-- DOC_ASSERT (R119). -/
def execDocAssert (lane : LaneId) (s : State) : Host.Outcome State Fault Refusal :=
  .next (s.laneEvent lane LaneView.docAssert)

/-- CONFIRM_EXPIRY (R122). -/
def execConfirmExpiry (lane : LaneId) (s : State) : Host.Outcome State Fault Refusal :=
  .next (s.laneEvent lane LaneView.confirmExpiry)

/-- OPEN_LONG_EXPIRY (R123). -/
def execOpenLongExpiry (lane : LaneId) (s : State) : Host.Outcome State Fault Refusal :=
  .next (s.laneEvent lane LaneView.openLongExpiry)

end Sys2Proof.Machine
end

