-- ==== Sys2Proof/Machine/Keyboard.lean ====
section
/-!
DEFINITION. Chapter 2: the key matrix scanner: the stages of a sample arrival, typematic repeat, and the keymap.
-/

namespace Sys2Proof.Machine

/-- The positions in increasing order. -/
def positions : List KeyPos := List.finRange 128

/-- The attribute makes a key of its own, NORMAL or REPEAT (R19). -/
def KeyAttr.isKey : KeyAttr → Bool
  | .normal => true
  | .repeating => true
  | .unused => false
  | .keylock _ => false

/-- One position brought forward by one sample: UNUSED is not debounced (R22); an up position is held at 0 while the
sample is ambiguous (R25); otherwise the raw state is compared with the debounced state (R23). -/
def debounce (attr : KeyAttr) (n : Nat) (ambiguousSample raw : Bool) (c : KeyCell) : KeyCell :=
  if attr = .unused then c
  else if ambiguousSample && !c.down then { c with count := 0 }
  else if raw = c.down then { c with count := 0 }
  else if n ≤ c.count + 1 then { c with down := !c.down, count := 0 }
  else { c with count := c.count + 1 }

/-- All positions brought forward by one sample (R18 stage 2). -/
def Lane.debounced (d : Lane) (raw : BitVec 128) : Vector KeyCell 128 :=
  let amb := ambiguous (d.cfg.rawDown raw)
  Vector.ofFn fun p => debounce d.keymap[p] d.cfg.debounce amb (d.cfg.rawDown raw p) d.keys.cells[p]

/-- The NORMAL and REPEAT positions that flip to `down` at this sample, in increasing order (R18 stages 3 and 5). -/
def Lane.flips (d : Lane) (cells : Vector KeyCell 128) (down : Bool) : List KeyPos :=
  positions.filter fun p => d.keymap[p].isKey && d.keys.cells[p].down != down && cells[p].down == down

/-- The mark of one position replaced. -/
def KeyScanner.setMark (k : KeyScanner) (p : KeyPos) (m : KeyMark) : KeyScanner :=
  { k with cells := k.cells.set p { k.cells[p] with mark := m } }

/-- The typematic timer stops (R32). -/
def KeyScanner.stopTypematic (k : KeyScanner) : KeyScanner := { k with typematic := none }

/-- The typematic timer stops when it serves this position (R30, R32). -/
def KeyScanner.stopServing (k : KeyScanner) (p : KeyPos) : KeyScanner :=
  match k.typematic with
  | some t => if t.pos = p then k.stopTypematic else k
  | none => k

/-- A NORMAL or REPEAT position flips up (R30). -/
def LaneView.releaseKey (v : LaneView) (p : KeyPos) : LaneView :=
  if p ∈ v.ln.keys.downList then
    (v.setKeys (KeyScanner.stopServing { v.ln.keys with downList := v.ln.keys.downList.erase p } p)).offer (.keyUp p)
  else v.setKeys (v.ln.keys.setMark p .none)

/-- Some position is marked blocked (R30). -/
def KeyScanner.anyBlocked (k : KeyScanner) : Bool := k.cells.toList.any fun c => decide (c.mark = .blocked)

/-- After the releases of a sample the rollover status becomes false if no position is marked blocked (R30). -/
def LaneView.afterReleases (v : LaneView) : LaneView :=
  v.setKeys { v.ln.keys with rollover := v.ln.keys.rollover && v.ln.keys.anyBlocked }

/-- The keylock position an attribute drives. -/
def KeyAttr.keylock? : KeyAttr → Option Keylock
  | .keylock k => some k
  | .normal => none
  | .repeating => none
  | .unused => none

/-- The keymap holds no keylock position (R35). -/
def Lane.noKeylock (d : Lane) : Bool := d.keymap.toList.all fun a => decide (a.keylock? = none)

/-- The keylock attributes of the positions debounced down, in increasing position order (R35). -/
def Lane.keylocksDown (d : Lane) : List Keylock :=
  (positions.filter fun p => d.keys.cells[p].down).filterMap fun p => d.keymap[p].keylock?

/-- The decode: the new keylock position and the keylock-fault status (R35). -/
def Lane.decodeKeylock (d : Lane) : Keylock × Bool :=
  if d.noKeylock then (.operate, false)
  else
    match d.keylocksDown with
    | [] => (d.keys.keylock, false)
    | [k] => (k, false)
    | _ :: _ :: _ => (d.keys.keylock, true)

/-- The keylock stage of a sample: the decode, and the KEYLOCK record of a change; a change into OFF stops the typematic
timer (R35, R36, R37). -/
def LaneView.keylockStage (v : LaneView) : LaneView :=
  let decoded := v.ln.decodeKeylock
  let keys : KeyScanner := { v.ln.keys with keylock := decoded.1, keylockFault := decoded.2 }
  if decoded.1 = v.ln.keys.keylock then v.setKeys keys
  else (v.setKeys (if decoded.1 = .off then keys.stopTypematic else keys)).offer (.keylock decoded.1)

/-- The typematic timer as a position joins the down list (R28, R32). -/
def LaneView.joinTypematic (v : LaneView) (p : KeyPos) : Option Typematic :=
  if v.ln.keymap[p] = .repeating then some { point := after v.now v.ln.cfg.typDelay, pos := p } else none

/-- What follows a taken KEY_DOWN: the position joins the down list, the duplicate filter is cleared, the typematic timer
is set or stopped, and the release key makes its attempt (R28, R38, R80). -/
def LaneView.keyTaken (v : LaneView) (p : KeyPos) : LaneView :=
  let w :=
    (v.setKeys { v.ln.keys with downList := v.ln.keys.downList ++ [p], typematic := v.joinTypematic p }).setFilter
      .cleared
  if w.ln.cfg.releaseKey = some p then w.localAttempt else w

/-- A NORMAL or REPEAT position flips down; the first step that applies ends the handling (R28). -/
def LaneView.pressKey (v : LaneView) (p : KeyPos) : LaneView :=
  if v.ln.keys.keylock = .off then v.setKeys (v.ln.keys.setMark p .unreported)
  else if Config.downListSize ≤ v.ln.keys.downList.length then
    v.setKeys { v.ln.keys.setMark p .blocked with rollover := true }
  else
    let b := RecordBody.keyDown p v.ln.keys.keylock
    if v.takes b then (v.offer b).keyTaken p
    else (v.setKeys (v.ln.keys.setMark p .unreported)).raise .overrun

/-- The status stage: ghost, rollover and keylock fault are handed to the condition monitor (R40). -/
def LaneView.statusStage (v : LaneView) : LaneView :=
  let g := v.handOver .ghost v.ln.keys.ghost
  let r := g.handOver .rollover g.ln.keys.rollover
  r.handOver .keylockFault r.ln.keys.keylockFault

/-- The key matrix scanner after stages 1 and 2, and the schedule moved on by one sample period (R18, R25). -/
def Lane.sampledKeys (d : Lane) (now : Time) (raw : BitVec 128) : KeyScanner :=
  { d.keys with
    cells := d.debounced raw
    ghost := ambiguous (d.cfg.rawDown raw)
    nextSample := some (after now d.cfg.period) }

/-- One sample processed whole, in the stages of R18. -/
def LaneView.processSample (v : LaneView) (raw : BitVec 128) : LaneView :=
  let cells := v.ln.debounced raw
  let ups := v.ln.flips cells false
  let downs := v.ln.flips cells true
  let sampled := v.setKeys (v.ln.sampledKeys v.now raw)
  let released := (ups.foldl LaneView.releaseKey sampled).afterReleases
  let pressed := downs.foldl LaneView.pressKey released.keylockStage
  pressed.statusStage.closeCounters v.ln.counters

/-- A sample arrival: heard while the lane is ON, at the time the schedule gives (R16, R18). -/
def LaneView.sampleArrival (v : LaneView) (raw : BitVec 128) : LaneView :=
  if v.ln.on && expired v.now v.ln.keys.nextSample then v.processSample raw else v

/-- The expiry of the typematic timer (R33). -/
def LaneView.typematicExpiry (v : LaneView) : LaneView :=
  match v.ln.keys.typematic with
  | none => v
  | some t =>
    if v.ln.on && reached v.now t.point then
      let w := v.offer (.keyRepeat t.pos)
      w.setKeys { w.ln.keys with typematic := some { t with point := after t.point v.ln.cfg.typPeriod } }
    else v

/-! ### KEYMAP (R20) -/

/-- A position other than the named one holds the attribute (R20). -/
def Lane.heldElsewhere (d : Lane) (a : KeyAttr) (first : Nat) : Bool :=
  positions.any fun p => decide (p.val ≠ first) && decide (d.keymap[p] = a)

/-- The consistency conditions of a KEYMAP, the attribute being in its list (R20). -/
def Lane.keymapValid (d : Lane) (first count : Nat) (a : KeyAttr) : Bool :=
  decide (first ≤ 127) && decide (1 ≤ count) && decide (first + count ≤ 128) &&
    (decide (a.keylock? = none) || (decide (count = 1) && !d.heldElsewhere a first))

/-- The keymap with an attribute given to the count positions from the first upward (R20). -/
def Lane.remapped (d : Lane) (first count : Nat) (a : KeyAttr) : Vector KeyAttr 128 :=
  Vector.ofFn fun p => if first ≤ p.val ∧ p.val < first + count then a else d.keymap[p]

/-- The KEYMAP request in an OFF or TRIPPED lane (R20). -/
def LaneView.changeKeymap (v : LaneView) (first count attr : Byte) : LaneView × ReplyCode :=
  match KeyAttr.ofByte attr with
  | none => (v, .badField)
  | some a =>
    if v.ln.keymapValid first.toNat count.toNat a then
      (v.setKeymap (v.ln.remapped first.toNat count.toNat a), .done)
    else (v, .badField)

/-- SAMPLE_ARRIVAL (R18). -/
def execSampleArrival (lane : LaneId) (raw : BitVec 128) (s : State) : Host.Outcome State Fault Refusal :=
  .next (s.laneEvent lane fun v => v.sampleArrival raw)

/-- TYPEMATIC_EXPIRY (R33). -/
def execTypematicExpiry (lane : LaneId) (s : State) : Host.Outcome State Fault Refusal :=
  .next (s.laneEvent lane LaneView.typematicExpiry)

end Sys2Proof.Machine
end

