-- ==== Sys2Proof/Machine/Scanner.lean ====
section
/-!
DEFINITION. Chapter 3: the scanner port: frame reception, the break detector, the completion of commands, INHIBIT and
TONE. A byte arriving on SRXn goes to the line checker while a check runs (R60).
-/

namespace Sys2Proof.Machine

/-! ### Receiving frames (R45 to R49) -/

/-- SOH, the start byte of a scanner frame (chapter 3). -/
def soh : Byte := 0x01

/-- ETB, the end byte of a scanner frame (chapter 3). -/
def etb : Byte := 0x17

/-- The view with another receive assembly. -/
def LaneView.setRx (v : LaneView) (rx : Receiver) : LaneView := v.setPort { v.ln.port with rx := rx }

/-- The gap timer of a frame set at `now` (R45, R47). -/
def LaneView.gapPoint (v : LaneView) : Option Time := some (after v.now v.ln.cfg.gap)

/-- An SOH starts assembly: IN_FRAME, class absent, no characters (R45). -/
def LaneView.startFrame (v : LaneView) : LaneView :=
  v.setRx { state := .inFrame, cls := none, chars := [], gap := v.gapPoint, breakPending := false }

/-- A frame in assembly is aborted: discarded, counted, answered by a 'B' under confirm tones; COUNTER_FULL is evaluated
at the close (R46, R138). -/
def LaneView.abortFrame (v : LaneView) : LaneView :=
  (((v.setRx .reset).raise .frameErr).confirmTone .bad).closeCounters v.ln.counters

/-- The class a class byte names (R47). -/
def CodeClass.ofByte (b : Byte) : Option CodeClass :=
  if b = 0x4E then some .numeric else if b = 0x41 then some .alpha else none

/-- The exclusive-or of the class byte and every data byte (R46). -/
def Code.bcc (code : Code) : Byte := code.chars.foldl (fun x b => x ^^^ b) code.cls.byte

/-- The code in assembly, once its class byte has arrived. -/
def Receiver.code (rx : Receiver) : Option Code := rx.cls.map fun c => { cls := c, chars := rx.chars }

/-- The frame completion: the receiver returns to IDLE and the code is judged within the event (R49). -/
def LaneView.completeFrame (v : LaneView) (rules : Vector CodeRule 16) (code : Code) : LaneView :=
  (v.setRx .reset).checkCode rules code

/-- A byte without stop-bit error other than SOH in IN_FRAME (R46, R47). -/
def LaneView.byteInFrame (v : LaneView) (b : Byte) : LaneView :=
  let rx := v.ln.port.rx
  match rx.cls with
  | none =>
    match CodeClass.ofByte b with
    | some c => v.setRx { rx with cls := some c, gap := v.gapPoint }
    | none => v.abortFrame
  | some c =>
    if b = etb then
      if rx.chars = [] then v.abortFrame else v.setRx { rx with state := .awaitBcc, gap := v.gapPoint }
    else if c.admits b then
      if rx.chars.length < Config.maxCodeLength then v.setRx { rx with chars := rx.chars ++ [b], gap := v.gapPoint }
      else v.abortFrame
    else v.abortFrame

/-- A byte without stop-bit error in AWAIT_BCC: the BCC, whatever its value (R49). -/
def LaneView.byteAsBcc (v : LaneView) (rules : Vector CodeRule 16) (b : Byte) : LaneView :=
  match v.ln.port.rx.code with
  | some code => if b = code.bcc then v.completeFrame rules code else v.abortFrame
  | none => v.abortFrame

/-- A byte arrival at the frame receiver (R45 to R49). A byte with a stop-bit error aborts a frame and starts none, also
when its value is SOH (Log 11); while a break character is pending the receiver sees nothing until SRXn returns to mark
(R51, Log 12). -/
def LaneView.receiveByte (v : LaneView) (rules : Vector CodeRule 16) (b : Byte) (stopError : Bool) : LaneView :=
  if v.ln.port.rx.breakPending then v
  else
    match v.ln.port.rx.state with
    | .idle => if !stopError && decide (b = soh) then v.startFrame else v
    | .inFrame =>
      if stopError then v.abortFrame
      else if b = soh then v.abortFrame.startFrame
      else v.byteInFrame b
    | .awaitBcc => if stopError then v.abortFrame else v.byteAsBcc rules b

/-- A break character leaves a frame in assembly pending with its gap timer held; otherwise, and during a line check, it
is ignored: it is no byte arrival (R43, R51, R60). -/
def LaneView.breakCharacter (v : LaneView) : LaneView :=
  if v.ln.on && !v.ln.checking && decide (v.ln.port.rx.state ≠ .idle) then
    v.setRx { v.ln.port.rx with breakPending := true }
  else v

/-- The character is a break character: its 8 data bits and its stop bit are all at space (R43). -/
def isBreakCharacter (b : Byte) (stopError : Bool) : Bool := stopError && decide (b = 0)

/-- A character on SRXn: heard while the lane is ON. A break character goes to the break detector (R43, Log 25), and a
byte arrival to the line checker while a check runs (a stop-bit error does not matter to it), to the frame receiver
otherwise (R16, R60, R165, R170). -/
def LaneView.srxByte (v : LaneView) (rules : Vector CodeRule 16) (b : Byte) (stopError : Bool) : LaneView :=
  if !v.ln.on then v
  else if isBreakCharacter b stopError then v.breakCharacter
  else if v.ln.checking then v.setChecker (v.ln.checker.compare v.id b)
  else v.receiveByte rules b stopError

/-- The arrival of the valid BCC of the frame in assembly (R49). -/
def LaneView.frameCompletion (v : LaneView) (rules : Vector CodeRule 16) : LaneView :=
  match v.ln.port.rx.code with
  | some code =>
    if v.ln.on && !v.ln.checking && decide (v.ln.port.rx.state = .awaitBcc) && !v.ln.port.rx.breakPending then
      v.completeFrame rules code
    else v
  | none => v

/-- The expiry of the gap timer, which is held while a break character is pending (R48). -/
def LaneView.gapExpiry (v : LaneView) : LaneView :=
  if v.ln.on && !v.ln.checking && decide (v.ln.port.rx.state ≠ .idle) && !v.ln.port.rx.breakPending &&
      expired v.now v.ln.port.rx.gap then
    v.abortFrame
  else v

/-! ### Break detection (R51, R52) -/

/-- A change of level of SRXn: the break timer is set again, and a return to mark aborts a frame left pending by a break
character (R51). -/
def LaneView.srxChange (v : LaneView) (level : LineLevel) : LaneView :=
  if v.ln.on then
    let w := v.setPort
      { v.ln.port with
        brk :=
          { v.ln.port.brk with
            held := some { level := level, since := v.now }
            timer := some (after v.now Config.breakTime) } }
    if decide (level = .mark) && v.ln.port.rx.breakPending then w.abortFrame else w
  else v

/-- The break timer expires at space: the scanner is absent and a frame in assembly is discarded uncounted (R51). DESIGN
CHOICE: the expiry leaves the timer stopped until the next change of level (Log 6). -/
def LaneView.breakAtSpace (v : LaneView) : LaneView :=
  (v.setPort { v.ln.port with rx := .reset, brk := { v.ln.port.brk with absent := true, timer := none } }).handOver
    .scannerAbsent true

/-- The break timer expires at mark: an absent scanner has come back, and unless a check runs the enable state is
re-stated (R52, R60). DESIGN CHOICE: the expiry leaves the timer stopped until the next change of level (Log 6). -/
def LaneView.breakAtMark (v : LaneView) : LaneView :=
  if v.ln.port.brk.absent then
    let w := (v.setPort { v.ln.port with brk := { v.ln.port.brk with absent := false, timer := none } }).handOver
      .scannerAbsent false
    if w.ln.checking then w else w.setPort w.ln.port.restate
  else v.setPort { v.ln.port with brk := { v.ln.port.brk with timer := none } }

/-- The expiry of the break timer (R51, R52). -/
def LaneView.breakExpiry (v : LaneView) : LaneView :=
  if v.ln.on && expired v.now v.ln.port.brk.timer then
    match v.ln.port.brk.held with
    | some h => if h.level = .space then v.breakAtSpace else v.breakAtMark
    | none => v
  else v

/-! ### Commands, INHIBIT and TONE (R53, R58, R62) -/

/-- The completion of a scanner command's transmission (R53). -/
def LaneView.commandSent (v : LaneView) : LaneView :=
  if v.ln.on && !v.ln.checking && decide (v.ln.port.cmds ≠ []) then v.setPort v.ln.port.commandSent else v

/-- HOST is added to or removed from the disable-reason set (R58). -/
def LaneView.setHostReason (v : LaneView) (present : Bool) : LaneView :=
  v.setReasons { v.ln.port.reasons with host := present }

/-- The tone a TONE field names, none outside its list (R62, R190). -/
def Tone.ofByte (b : Byte) : Option Tone :=
  match b.toNat with
  | 0 => some .good
  | 1 => some .bad
  | _ => none

/-- The TONE request on an ON lane: the field is checked before the line-check test (R62). -/
def LaneView.requestTone (v : LaneView) (tone : Byte) : LaneView × ReplyCode :=
  match Tone.ofByte tone with
  | none => (v, .badField)
  | some t =>
    if v.ln.checking then (v, .busy)
    else if v.ln.port.toneFits then (v.offerTone t, .done)
    else (v, .busy)

/-- SCANNER_BYTE_ARRIVAL (R45 to R49). -/
def execScannerByteArrival (lane : LaneId) (byte : Byte) (stopError : Bool) (s : State) :
    Host.Outcome State Fault Refusal :=
  .next (s.laneEvent lane fun v => v.srxByte s.rules byte stopError)

/-- CHECK_BYTE_ARRIVAL: a byte returning on SRXn; after the check has ended it arrives at the IDLE receiver
(R165, R166, R170, R171). -/
def execCheckByteArrival (lane : LaneId) (byte : Byte) (stopError : Bool) (s : State) :
    Host.Outcome State Fault Refusal :=
  .next (s.laneEvent lane fun v => v.srxByte s.rules byte stopError)

/-- FRAME_COMPLETION (R49). -/
def execFrameCompletion (lane : LaneId) (s : State) : Host.Outcome State Fault Refusal :=
  .next (s.laneEvent lane fun v => v.frameCompletion s.rules)

/-- SCANNER_GAP_EXPIRY (R48). -/
def execScannerGapExpiry (lane : LaneId) (s : State) : Host.Outcome State Fault Refusal :=
  .next (s.laneEvent lane LaneView.gapExpiry)

/-- SRX_LEVEL_CHANGE: SRXn takes another level, watched by the break detector of an ON lane (R51). -/
def execSrxLevelChange (lane : LaneId) (level : LineLevel) (s : State) : Host.Outcome State Fault Refusal :=
  .next
    (if s.lanes[lane].pins.srx = level then s
    else (s.onLane lane fun v => v.setPins { v.ln.pins with srx := level }).laneEvent lane fun v => v.srxChange level)

/-- BREAK_CHARACTER (R51). -/
def execBreakCharacter (lane : LaneId) (s : State) : Host.Outcome State Fault Refusal :=
  .next (s.laneEvent lane LaneView.breakCharacter)

/-- BREAK_TIMER_EXPIRY (R51, R52). -/
def execBreakTimerExpiry (lane : LaneId) (s : State) : Host.Outcome State Fault Refusal :=
  .next (s.laneEvent lane LaneView.breakExpiry)

/-- COMMAND_SENT (R53). -/
def execCommandSent (lane : LaneId) (s : State) : Host.Outcome State Fault Refusal :=
  .next (s.laneEvent lane LaneView.commandSent)

end Sys2Proof.Machine
end

