-- ==== Sys2Proof/Machine/Service.lean ====
section
/-!
DEFINITION. Chapter 8: the service order: what a FETCH removes, the arbiter's choice, and the FETCH reply.
-/

namespace Sys2Proof.Machine

/-! ### Removal (R100, R152) -/

/-- Up to `n` records leave the head of the lane queue and return their slots; FLOW is evaluated once when any left
(R100). -/
def LaneView.removeRecords (v : LaneView) (n : Nat) : LaneView :=
  let removed := v.ln.queue.records.take n
  if removed = [] then v
  else
    LaneView.evalFlow flowFuel
      { v.setQueue
          { v.ln.queue with
            records := v.ln.queue.records.drop n
            held := v.ln.queue.held - slotCount removed } with
        free := v.free + slotCount removed }

/-- ATTN is deasserted when no record waits at the end of a FETCH (R160). -/
def State.settleAttn (s : State) : State := { s with attn := s.attn && s.waiting }

/-! ### The arbiter (R157, R158) -/

/-- The group of a lane: 0 for pressed, then one for each priority class from 3 down to 0 (R157). -/
def Lane.group (d : Lane) : Fin 5 :=
  if d.pressed then 0
  else
    match d.set.priority with
    | 3 => 1
    | 2 => 2
    | 1 => 3
    | _ => 4

/-- The lane is a candidate and belongs to the group (R157). -/
def State.inGroup (s : State) (g : Fin 5) (l : LaneId) : Bool :=
  s.lanes[l].waiting && decide (s.lanes[l].group = g)

/-- The lanes in the order a pointer tries them: from the lane after it upward, wrapping, its own lane last (R158). -/
def lanesAfter (pointer : LaneId) : List LaneId := (List.finRange 8).map fun k => pointer + 1 + k

/-- The lane of a group that its pointer chooses (R158). -/
def State.chooseIn (s : State) (g : Fin 5) : Option LaneId :=
  (lanesAfter s.pointers[g]).find? fun l => s.inGroup g l

/-- The arbiter's choice: the group of first rank with a member, and the lane its pointer chooses (R157, R158). -/
def State.arbiterChoice (s : State) : Option (Fin 5 × LaneId) :=
  (List.finRange 5).findSome? fun g => (s.chooseIn g).map fun l => (g, l)

/-! ### The FETCH reply (R151 to R155, R190) -/

/-- The number of records a FETCH may carry (R151). -/
def fetchMaximum (b : Byte) : Nat := clamp 1 8 b.toNat

/-- The reply code of a FETCH (R151). -/
def fetchCode (b : Byte) : ReplyCode := if fetchMaximum b = b.toNat then .done else .clamped

/-- The FETCH reply after the code: source, record count, remaining count and the records (R155, R190). -/
def fetchBody (source : Byte) (records : List (List Byte)) (remaining : Nat) : List Byte :=
  [source, byteOf records.length] ++ bytes16n remaining ++ (records.map withLength).flatten

/-- Records drawn from a lane queue: the state after the FETCH and the reply after the code (R153, R154). -/
def State.fetchFrom (s : State) (l : LaneId) (n : Nat) : State × List Byte :=
  let removed := s.lanes[l].queue.records.take n
  let t := (s.onLane l fun v => v.removeRecords n).settleAttn
  (t, fetchBody (if removed = [] then 0xFF else byteOf l.val) (removed.map LaneRecord.bytes) t.remaining)

/-- Records drawn from the alarm queue (R152). -/
def State.fetchAlarms (s : State) (n : Nat) : State × List Byte :=
  let t := State.settleAttn { s with alarms := s.alarms.drop n }
  (t, fetchBody 0xFE ((s.alarms.take n).map Alarm.bytes) t.remaining)

/-- A FETCH ANY: the alarm queue when it holds a record, otherwise the lane the arbiter chooses, whose group's pointer
moves to it; no record at all when there is no candidate (R152, R153, R158). -/
def State.fetchAny (s : State) (n : Nat) : State × List Byte :=
  if s.alarms ≠ [] then s.fetchAlarms n
  else
    match s.arbiterChoice with
    | some (g, l) => State.fetchFrom { s with pointers := s.pointers.set g l } l n
    | none => (s, fetchBody 0xFF [] s.remaining)

end Sys2Proof.Machine
end

