-- ==== Sys2Proof/Machine/Settings.lean ====
section
/-!
DEFINITION. Section 10.5: what a LANESET does to its lane within the request.
-/

namespace Sys2Proof.Machine

/-- The drawer state is OPEN or OPEN_LONG (R59). -/
def Lane.drawerOpen (d : Lane) : Bool := decide (d.drawer.state = .opened) || decide (d.drawer.state = .openLong)

/-- Step 1 of R187: a stored window of 0 clears the duplicate filter (R80). -/
def LaneView.windowStored (v : LaneView) : LaneView :=
  if v.ln.set.dupWindow = 0 then v.setFilter .cleared else v

/-- Step 2 of R187: a change of inhibit-while-open under an open drawer adds or removes DRAWER (R59). -/
def LaneView.inhibitStored (v : LaneView) (old : LaneSet) : LaneView :=
  if decide (v.ln.set.inhibitOpen ≠ old.inhibitOpen) && v.ln.drawerOpen then v.setDrawerReason v.ln.set.inhibitOpen
  else v

/-- Step 3 of R187: a change of the counter mode starts the report timer of an ON lane or stops it (R142). -/
def LaneView.modeStored (v : LaneView) (old : LaneSet) : LaneView :=
  match old.counterMode, v.ln.set.counterMode with
  | .manual, .auto => if v.ln.on then v.startReport else v
  | .auto, .manual => v.setReport none
  | .manual, .manual => v
  | .auto, .auto => v

/-- A LANESET with write 1 that is not refused acts on the lane, in the order of R187. -/
def LaneView.storeSet (v : LaneView) (new : LaneSet) : LaneView :=
  ((((v.setSet new).windowStored).inhibitStored v.ln.set).modeStored v.ln.set).evalFlow flowFuel

/-- A LANESET with write 0 evaluates FLOW against the unchanged settings (R187). -/
def LaneView.readSet (v : LaneView) : LaneView := v.evalFlow flowFuel

end Sys2Proof.Machine
end

