-- ==== Sys2Proof/Machine/HostLink.lean ====
section
/-!
DEFINITION. Chapter 10: what each request does and answers, how a request is taken, the reply buffers, and the receiver
that assembles request frames.
-/

namespace Sys2Proof.Machine

/-- The answer to a request: the reply code and the reply bytes after it (R179, R181). -/
structure Answer where
  code : ReplyCode
  body : List Byte
  deriving DecidableEq, Repr

/-- An answer of a code alone (R181). -/
def Answer.only (code : ReplyCode) : Answer := { code := code, body := [] }

/-! ### Lane requests: the lane number and the lane state (R13, R14, R177) -/

/-- The lane field is checked: a value above 7 is refused with BAD_LANE (R177 step 5). -/
def State.withLane (s : State) (lane : Byte) (f : LaneId → State × Answer) : State × Answer :=
  if h : lane.toNat < 8 then f ⟨lane.toNat, h⟩ else (s, .only .badLane)

/-- A lane request that acts on its lane alone. -/
def State.answerLane (s : State) (lane : Byte) (f : LaneView → LaneView × Answer) : State × Answer :=
  s.withLane lane fun l => (s.put l (f (s.view l)).1, (f (s.view l)).2)

/-- A request refused with NOT_READY unless the lane is ON (R13). -/
def whenOn (v : LaneView) (r : LaneView × Answer) : LaneView × Answer :=
  if v.ln.on then r else (v, .only .notReady)

/-- A request refused with LANE_ACTIVE in SETTLING and ON (R14). -/
def whenInactive (v : LaneView) (r : LaneView × Answer) : LaneView × Answer :=
  if v.ln.powered then (v, .only .laneActive) else r

/-- An answer of a code alone beside the view. -/
def codeOnly (r : LaneView × ReplyCode) : LaneView × Answer := (r.1, .only r.2)

/-! ### IDENT and STATUS (R182 to R184) -/

/-- The IDENT reply after the code (R182). -/
def State.identBytes (s : State) : List Byte := [0x4B, 0x38, 0x02, 8, 96, 32, 16, s.resetCause.byte, bitByte s.resetFlag]

/-- IDENT: the reset flag is placed in the reply and then cleared (R182). -/
def State.serveIdent (s : State) : State × Answer :=
  ({ s with resetFlag := false }, { code := .done, body := s.identBytes })

/-- The six position bytes of the down list, unused places 0xFF (R190). -/
def downListBytes (downList : List KeyPos) : List Byte :=
  downList.map (fun p => byteOf p.val) ++ List.replicate (Config.downListSize - downList.length) 0xFF

/-- The lane form of STATUS after the code (R183, R190). -/
def Lane.statusBytes (d : Lane) : List Byte :=
  [d.power.state.byte, progressByte d.power.progress, d.drawer.state.byte, d.keys.keylock.byte, bitByte d.drawer.fault,
    d.drawer.flags.setWidth 8, d.port.reasons.byte, byteOf d.count, byteOf d.queue.held, liveByte d.live,
    byteOf d.keys.downList.length] ++ downListBytes d.keys.downList

/-- The device form of STATUS after the code (R184, R190). -/
def State.statusBytes (s : State) : List Byte :=
  bytes32 s.timeBase ++ [bitByte s.lockdown, bitByte s.lkdLevel, byteOf s.poolFree, byteOf s.alarms.length] ++
    bytes16n s.link.errors

/-- STATUS of a lane, or of the device for 0xFF (R183, R184). -/
def State.serveStatus (s : State) (lane : Byte) : State × Answer :=
  if lane = anyLaneByte then (s, { code := .done, body := s.statusBytes })
  else s.answerLane lane fun v => (v, { code := .done, body := v.ln.statusBytes })

/-! ### Settings requests (R20, R185 to R187) -/

/-- A request carried out with or without a clamped field (R179). -/
def doneOrClamped (clamped : Bool) : ReplyCode := if clamped then .clamped else .done

/-- LANECFG in an OFF or TRIPPED lane (R185). -/
def LaneView.serveLaneCfg (v : LaneView) (write : Byte) (f : LaneCfgFields) : LaneView × Answer :=
  if !isChoice write then (v, .only .badField)
  else if write = 0 then (v, { code := .done, body := v.ln.cfg.bytes })
  else if f.listed then (v.setCfg f.store, { code := doneOrClamped f.clamps, body := f.store.bytes })
  else (v, .only .badField)

/-- LANESET (R186, R187). -/
def LaneView.serveLaneSet (v : LaneView) (write : Byte) (f : LaneSetFields) : LaneView × Answer :=
  if !isChoice write then (v, .only .badField)
  else if write = 0 then (v.readSet, { code := .done, body := v.ln.set.bytes })
  else if f.listed then (v.storeSet f.store, { code := doneOrClamped f.clamps, body := f.store.bytes })
  else (v, .only .badField)

/-! ### Requests of the other chapters -/

/-- A code alone for a request of the rule table. -/
def State.serveRule (s : State) (index : Byte) (f : RuleFields) : State × Answer :=
  ((s.writeRule index f).1, .only (s.writeRule index f).2)

/-- RULEQ (R66). -/
def State.serveRuleQ (s : State) (index : Byte) : State × Answer :=
  if h : index.toNat < 16 then (s, { code := .done, body := s.rules[index.toNat].bytes }) else (s, .only .badField)

/-- POWER, whose value field is checked in every lane state (R2). -/
def LaneView.servePower (v : LaneView) (value : Byte) : LaneView × Answer :=
  if !isChoice value then (v, .only .badField)
  else if value = 1 then codeOnly v.powerOn
  else codeOnly v.powerOff

/-- FETCH (R151 to R155). -/
def State.serveFetch (s : State) (lane maximum : Byte) : State × Answer :=
  let n := fetchMaximum maximum
  if lane = anyLaneByte then ((s.fetchAny n).1, { code := fetchCode maximum, body := (s.fetchAny n).2 })
  else
    s.withLane lane fun l => ((s.fetchFrom l n).1, { code := fetchCode maximum, body := (s.fetchFrom l n).2 })

/-- RELEASE: the reply carries the failing set (R114). -/
def LaneView.serveRelease (v : LaneView) : LaneView × Answer :=
  (v.hostRelease.1, { code := v.hostRelease.2.1, body := [v.hostRelease.2.2.setWidth 8] })

/-- FLAGS: a list that names anything but the four flags is refused (R111). -/
def LaneView.serveFlags (v : LaneView) (setList clearList : Byte) : LaneView × Answer :=
  if decide (setList.toNat < 16) && decide (clearList.toNat < 16) then
    (v.changeFlags (setList.setWidth 4) (clearList.setWidth 4), .only .done)
  else (v, .only .badField)

/-- INHIBIT: a value outside its list is refused before the lane state is tested (R58, R177 step 6). -/
def LaneView.serveInhibit (v : LaneView) (value : Byte) : LaneView × Answer :=
  if !isChoice value then (v, .only .badField)
  else if value = 1 then whenOn v (v.setHostReason true, .only .done)
  else (v.setHostReason false, .only .done)

/-- COUNTS: the values as they stand when the request is taken (R145, Log 15). -/
def LaneView.serveCounts (v : LaneView) (clear : Byte) : LaneView × Answer :=
  if isChoice clear then
    ((v.countsRequest (clear == 1)).1, { code := (v.countsRequest (clear == 1)).2, body := v.ln.counters.bytes })
  else (v, .only .badField)

/-- CHECK with its action: 0 start, 1 stop, 2 insert (R162, R168, R169, R190). -/
def LaneView.serveCheck (v : LaneView) (action duration : Byte) : LaneView × Answer :=
  whenOn v
    (match action.toNat with
      | 0 => codeOnly (v.checkStart duration)
      | 1 => codeOnly v.checkStop
      | 2 => codeOnly v.checkInsert
      | _ => (v, .only .badField))

/-- UNLOCK (R128). -/
def State.serveUnlock (s : State) : State × Answer :=
  if s.lkdLevel then (s, .only .stillAsserted) else ({ s with lockdown := false }, .only .done)

/-- RESTART: only the restart pending state is set (R189). -/
def State.serveRestart (s : State) : State × Answer :=
  ({ s with link := { s.link with restartPending := true } }, .only .done)

/-- What a request does and answers, its kind and payload length being right (R177 steps 5 to 7). -/
def State.serve (s : State) (r : Request) : State × Answer :=
  match r with
  | .ident => s.serveIdent
  | .status lane => s.serveStatus lane
  | .laneCfg lane write f => s.answerLane lane fun v => whenInactive v (v.serveLaneCfg write f)
  | .laneSet lane write f => s.answerLane lane fun v => v.serveLaneSet write f
  | .keymap lane first count attr =>
    s.answerLane lane fun v => whenInactive v (codeOnly (v.changeKeymap first count attr))
  | .rule index f => s.serveRule index f
  | .ruleQ index => s.serveRuleQ index
  | .power lane value => s.answerLane lane fun v => v.servePower value
  | .fetch lane maximum => s.serveFetch lane maximum
  | .release lane => s.answerLane lane fun v => v.serveRelease
  | .flags lane setList clearList => s.answerLane lane fun v => v.serveFlags setList clearList
  | .inhibit lane value => s.answerLane lane fun v => v.serveInhibit value
  | .tone lane tone => s.answerLane lane fun v => whenOn v (codeOnly (v.requestTone tone))
  | .counts lane clear => s.answerLane lane fun v => v.serveCounts clear
  | .check lane action duration => s.answerLane lane fun v => v.serveCheck action duration
  | .unlock => s.serveUnlock
  | .clrFault lane => s.answerLane lane fun v => (v.clearFault, .only .done)
  | .restart => s.serveRestart

/-! ### Taking a request (R177, R178, R181) -/

/-- The reply to a request: its kind byte with the top bit set, its tag, and the answer. A RELEASE reply carries its
failing-set byte after every code (R173, R181). -/
def replyTo (kind tag : Byte) (a : Answer) : Reply :=
  { kind := kind ||| 0x80
    tag := tag
    code := a.code
    body := if kind = RequestKind.release.byte ∧ a.body = [] then [0] else a.body }

/-- A reply joins the tail of the reply buffers (R178). -/
def State.pushReply (s : State) (r : Reply) : State :=
  { s with link := { s.link with replies := s.link.replies ++ [r] } }

/-- The link error counter raised by one (R176). -/
def State.countLinkError (s : State) : State := { s with link := { s.link with errors := bump16 s.link.errors } }

/-- The work of a parsed request, or the refusal of its kind or length (R177 steps 3 to 7). -/
def State.serveParsed (s : State) (parsed : Except ReplyCode Request) : State × Answer :=
  match parsed with
  | .ok r => s.serve r
  | .error code => (s, .only code)

/-- A request is taken at its frame completion: both buffers full discards and counts it, a pending RESTART discards it,
otherwise it is served and its reply built (R177). With both buffers full and a RESTART pending R177 counts the request
and R189 discards it without a count: the model goes by the order of R177, whose step 1 comes first, and counts it
(Log 24). While the part is held in reset nothing is heard (R188). -/
def State.takeRequest (s : State) (kind tag : Byte) (parsed : Except ReplyCode Request) : State :=
  if s.held then s
  else if Config.replyBuffers ≤ s.link.replies.length then s.countLinkError
  else if s.link.restartPending then s
  else ((s.serveParsed parsed).1).pushReply (replyTo kind tag (s.serveParsed parsed).2)

/-- A request row of the table: the request at its frame completion (Log 19). -/
def State.request (s : State) (tag : Byte) (r : Request) : State := s.takeRequest r.kind.byte tag (.ok r)

/-! ### CRC and frames (R173, R174) -/

/-- One bit taken into the running CRC (R174). -/
def crcBit (crc : BitVec 16) (bit : Bool) : BitVec 16 :=
  if crc.msb ^^ bit then (crc <<< 1) ^^^ 0x1021 else crc <<< 1

/-- One byte taken into the running CRC, most significant bit first (R174). -/
def crcByte (crc : BitVec 16) (b : Byte) : BitVec 16 :=
  [7, 6, 5, 4, 3, 2, 1, 0].foldl (fun c i => crcBit c (b.getLsbD i)) crc

/-- The CRC of bytes (R174). -/
def crcOf (bytes : List Byte) : BitVec 16 := bytes.foldl crcByte 0xFFFF

/-- A frame of the host link: start byte, LEN, kind, tag, payload, CRC (R173, R190). -/
def hostFrame (kind tag : Byte) (payload : List Byte) : List Byte :=
  let covered := bytes16n (payload.length + 2) ++ [kind, tag] ++ payload
  [0xC3] ++ covered ++ bytes16 (crcOf covered)

/-- The bytes of a reply on HTX (R173, R178). -/
def Reply.frame (r : Reply) : List Byte := hostFrame r.kind r.tag (r.code.byte :: r.body)

/-- What HTX carries: the bytes of the reply being sent, or mark (R172, R178). -/
inductive HtxLine where
  | mark
  | reply (bytes : List Byte)
  deriving DecidableEq, Repr

/-- The line HTX: the reply at the head of the reply buffers, and mark when there is none or while the part is held in
reset, which cuts a reply being sent (R172, R178, R188). -/
def State.htx (s : State) : HtxLine :=
  if s.held then .mark
  else
    match s.link.replies with
    | [] => .mark
    | r :: _ => .reply r.frame

/-! ### The receiver (R175, R176) -/

/-- The state with another host link receiver. -/
def State.setHostRx (s : State) (rx : HostRx) : State := { s with link := { s.link with rx := rx } }

/-- A frame in assembly is discarded: counted, no reply, back to HUNT (R176). -/
def State.discardFrame (s : State) : State := (s.setHostRx .reset).countLinkError

/-- The expiry point of the host link gap timer (R175). -/
def State.hostGapPoint (s : State) : Option Time := some (after s.timeBase Config.hostGap)

/-- The frame completion of a request: the receiver returns to HUNT and the request is taken (R175, R177). -/
def State.completeRequest (s : State) : State :=
  match s.link.rx.body with
  | kind :: tag :: payload => (s.setHostRx .reset).takeRequest kind tag (parseRequest kind payload)
  | _ => s.setHostRx .reset

/-- A byte arrival without stop-bit error (R175). -/
def State.hostByte (s : State) (b : Byte) : State :=
  let rx := s.link.rx
  let taken : HostRx := { rx with crc := crcByte rx.crc b, gap := s.hostGapPoint }
  match rx.state with
  | .hunt =>
    if b = 0xC3 then s.setHostRx { HostRx.reset with state := .lenLow, crc := 0xFFFF, gap := s.hostGapPoint } else s
  | .lenLow => s.setHostRx { taken with state := .lenHigh, len := b.setWidth 16 }
  | .lenHigh =>
    let len : BitVec 16 := word16 (rx.len.setWidth 8) b
    if 2 ≤ len.toNat ∧ len.toNat ≤ 1030 then s.setHostRx { taken with state := .body, len := len, body := [] }
    else s.discardFrame
  | .body =>
    s.setHostRx
      { taken with
        state := if rx.body.length + 1 = rx.len.toNat then .crcLow else .body
        body := rx.body ++ [b] }
  | .crcLow => s.setHostRx { rx with state := .crcHigh, crcLow := b, gap := s.hostGapPoint }
  | .crcHigh => if word16 rx.crcLow b = rx.crc then s.completeRequest else s.discardFrame

/-- HOST_BYTE_ARRIVAL: a stop-bit error is ignored in HUNT and discards the frame elsewhere (R175, R176). -/
def execHostByteArrival (byte : Byte) (stopError : Bool) (s : State) : Host.Outcome State Fault Refusal :=
  .next
    (if s.held then s
    else if stopError then (if s.link.rx.state = .hunt then s else s.discardFrame)
    else s.hostByte byte)

/-- HOST_GAP_EXPIRY (R176). -/
def execHostGapExpiry (s : State) : Host.Outcome State Fault Refusal :=
  .next
    (if !s.held && decide (s.link.rx.state ≠ .hunt) && expired s.timeBase s.link.rx.gap then s.discardFrame else s)

/-- REPLY_SENT: the head reply leaves the list and the next begins (R178). -/
def execReplySent (s : State) : Host.Outcome State Fault Refusal :=
  .next (if s.held then s else { s with link := { s.link with replies := s.link.replies.tail } })

end Sys2Proof.Machine
end

