-- ==== Sys2Proof/Machine/Requests.lean ====
section
/-!
DEFINITION. The request rows of the table: each is a request of chapter 10 at its frame completion (R177, Log 19), with
the fields its row fixes filled in.
-/

namespace Sys2Proof.Machine

/-- The fields of a read-form LANECFG, which the part does not examine (R185). -/
def unexaminedCfg : LaneCfgFields :=
  { settle := 0, rows := 0, cols := 0, period := 0, debounce := 0, typDelay := 0, typPeriod := 0, releaseKey := 0
    rate := 0, gap := 0, pulse := 0, confirm := 0 }

/-- The fields of a read-form LANESET, which the part does not examine (R186). -/
def unexaminedSet : LaneSetFields :=
  { confirmTones := 0, inhibitOpen := 0, strict := 0, valueLimit := 0, dupWindow := 0, quota := 0, high := 0, low := 0
    openLong := 0, hostMask := 0, keyMask := 0, consume := 0, modes := Vector.replicate 8 0, counterMode := 0
    interval := 0, priority := 0 }

/-- IDENT (R182). -/
def execIdent (tag : Byte) (s : State) : Host.Outcome State Fault Refusal := .next (s.request tag .ident)

/-- STATUS of a lane (R183). -/
def execStatusLane (tag lane : Byte) (s : State) : Host.Outcome State Fault Refusal :=
  .next (s.request tag (.status lane))

/-- STATUS of the device (R184). -/
def execStatusDevice (tag : Byte) (s : State) : Host.Outcome State Fault Refusal :=
  .next (s.request tag (.status anyLaneByte))

/-- LANECFG with write 0 (R185). -/
def execLaneCfgRead (tag lane : Byte) (s : State) : Host.Outcome State Fault Refusal :=
  .next (s.request tag (.laneCfg lane 0 unexaminedCfg))

/-- LANECFG with write 1 (R185). -/
def execLaneCfgWrite (tag lane : Byte) (fields : LaneCfgFields) (s : State) : Host.Outcome State Fault Refusal :=
  .next (s.request tag (.laneCfg lane 1 fields))

/-- LANESET with write 0 (R186, R187). -/
def execLaneSetRead (tag lane : Byte) (s : State) : Host.Outcome State Fault Refusal :=
  .next (s.request tag (.laneSet lane 0 unexaminedSet))

/-- LANESET with write 1 (R186, R187). -/
def execLaneSetWrite (tag lane : Byte) (fields : LaneSetFields) (s : State) : Host.Outcome State Fault Refusal :=
  .next (s.request tag (.laneSet lane 1 fields))

/-- KEYMAP (R20). -/
def execKeymap (tag lane first count attr : Byte) (s : State) : Host.Outcome State Fault Refusal :=
  .next (s.request tag (.keymap lane first count attr))

/-- RULE (R64). -/
def execRule (tag index : Byte) (fields : RuleFields) (s : State) : Host.Outcome State Fault Refusal :=
  .next (s.request tag (.rule index fields))

/-- RULEQ (R66). -/
def execRuleQ (tag index : Byte) (s : State) : Host.Outcome State Fault Refusal := .next (s.request tag (.ruleQ index))

/-- POWER with value on (R2). -/
def execPowerOn (tag lane : Byte) (s : State) : Host.Outcome State Fault Refusal :=
  .next (s.request tag (.power lane 1))

/-- POWER with value off (R2). -/
def execPowerOff (tag lane : Byte) (s : State) : Host.Outcome State Fault Refusal :=
  .next (s.request tag (.power lane 0))

/-- FETCH ANY (R152, R153). -/
def execFetchAny (tag maximum : Byte) (s : State) : Host.Outcome State Fault Refusal :=
  .next (s.request tag (.fetch anyLaneByte maximum))

/-- FETCH of a named lane (R154). -/
def execFetchLane (tag lane maximum : Byte) (s : State) : Host.Outcome State Fault Refusal :=
  .next (s.request tag (.fetch lane maximum))

/-- RELEASE (R114). -/
def execRelease (tag lane : Byte) (s : State) : Host.Outcome State Fault Refusal := .next (s.request tag (.release lane))

/-- FLAGS (R111). -/
def execFlags (tag lane setList clearList : Byte) (s : State) : Host.Outcome State Fault Refusal :=
  .next (s.request tag (.flags lane setList clearList))

/-- INHIBIT with value on (R58). -/
def execInhibitOn (tag lane : Byte) (s : State) : Host.Outcome State Fault Refusal :=
  .next (s.request tag (.inhibit lane 1))

/-- INHIBIT with value off (R58). -/
def execInhibitOff (tag lane : Byte) (s : State) : Host.Outcome State Fault Refusal :=
  .next (s.request tag (.inhibit lane 0))

/-- TONE (R62). -/
def execTone (tag lane tone : Byte) (s : State) : Host.Outcome State Fault Refusal :=
  .next (s.request tag (.tone lane tone))

/-- COUNTS (R145). -/
def execCounts (tag lane clear : Byte) (s : State) : Host.Outcome State Fault Refusal :=
  .next (s.request tag (.counts lane clear))

/-- CHECK with action start (R162). -/
def execCheckStart (tag lane duration : Byte) (s : State) : Host.Outcome State Fault Refusal :=
  .next (s.request tag (.check lane 0 duration))

/-- CHECK with action stop; its duration is not examined (R169, R190). -/
def execCheckStop (tag lane : Byte) (s : State) : Host.Outcome State Fault Refusal :=
  .next (s.request tag (.check lane 1 0))

/-- CHECK with action insert; its duration is not examined (R168, R190). -/
def execCheckInsert (tag lane : Byte) (s : State) : Host.Outcome State Fault Refusal :=
  .next (s.request tag (.check lane 2 0))

/-- UNLOCK (R128). -/
def execUnlock (tag : Byte) (s : State) : Host.Outcome State Fault Refusal := .next (s.request tag .unlock)

/-- CLRFAULT (R120). -/
def execClrFault (tag lane : Byte) (s : State) : Host.Outcome State Fault Refusal := .next (s.request tag (.clrFault lane))

/-- RESTART (R189). -/
def execRestart (tag : Byte) (s : State) : Host.Outcome State Fault Refusal := .next (s.request tag .restart)

end Sys2Proof.Machine
end

