-- ==== Sys2Proof/Machine/Reset.lean ====
section
/-!
DEFINITION. Section 10.6: device reset: the values it gives, how a reset ends, and its sources.
-/

namespace Sys2Proof.Machine

/-- A lane at its device-reset values. The pin levels are outside the part; the model's own index of free values runs
on (Log 7). -/
def Lane.deviceReset (d : Lane) : Lane :=
  { Lane.reset with checker := d.checker.cleared, pins := d.pins }

/-- Every piece of state of the part at its device-reset value (R188). What is kept: the pin levels, which are outside
the part, the rate sampled (R172), the reset cause and flag until the reset ends (R182), and the model's own queue. -/
def State.deviceReset (s : State) : State :=
  { State.reset with
    lanes := Vector.ofFn fun l => s.lanes[l].deviceReset
    link := { HostLink.reset with rate := s.link.rate }
    resetCause := s.resetCause
    resetFlag := s.resetFlag
    porHold := s.porHold
    rstAsserted := s.rstAsserted
    resetSource := s.resetSource
    lkdPin := s.lkdPin
    pending := s.pending }

/-- The rate of the straps RATE1 and RATE0 (R172). -/
def rateOf (rate1 rate0 : Strap) : HostRate :=
  match rate1, rate0 with
  | .low, .low => .r57600
  | .low, .high => .r115200
  | .high, .low => .r230400
  | .high, .high => .r460800

/-- The straps are sampled (R172). -/
def State.sampleStraps (s : State) (rate1 rate0 : Strap) : State :=
  { s with link := { s.link with rate := rateOf rate1 rate0 } }

/-- The end of a reset: the time base starts from 0, the cause is recorded and the flag set, and LKD is sampled, an
asserted level counting as one assertion event (R188 steps 2 to 4, R127). -/
def State.endReset (s : State) : State :=
  let t : State := { s with timeBase := 0, resetCause := s.resetSource, resetFlag := true, lkdLevel := s.lkdPin }
  if s.lkdPin then t.lockdownEvent else t

/-- POWER_ON_RESET: the supply rises and the part is held in reset (R188). -/
def execPowerOnReset (s : State) : Host.Outcome State Fault Refusal :=
  .next { s.deviceReset with porHold := true, resetSource := .powerOn }

/-- POWER_ON_RESET_END: VDD has stood for 1 ms. The reset ends unless RST is asserted, which then holds the part (R188,
Log 13). Where no power-on reset is going on, nothing changes (Log 8). -/
def execPowerOnResetEnd (rate1 rate0 : Strap) (s : State) : Host.Outcome State Fault Refusal :=
  .next
    (if !s.porHold then s
    else
      let t := State.sampleStraps { s with porHold := false } rate1 rate0
      if s.rstAsserted then t else t.endReset)

/-- RST_ASSERT: a device reset starts and RST holds the part; a pending RESTART ends (R188, R189). -/
def execRstAssert (s : State) : Host.Outcome State Fault Refusal :=
  .next { s.deviceReset with rstAsserted := true, resetSource := .rst }

/-- RST_RELEASE: the straps are sampled and the reset ends, unless the internal power-on reset still holds the part
(R172, R188, Log 13). Where RST is not asserted, nothing changes (Log 8). -/
def execRstRelease (rate1 rate0 : Strap) (s : State) : Host.Outcome State Fault Refusal :=
  .next
    (if !s.rstAsserted then s
    else
      let t := State.sampleStraps { s with rstAsserted := false } rate1 rate0
      if s.porHold then t else t.endReset)

/-- RESTART_RESET: once the RESTART reply has left HTX, a device reset with cause RESTART takes place and ends at once;
the rate is kept (R189, Log 14). -/
def execRestartReset (s : State) : Host.Outcome State Fault Refusal :=
  .next
    (if !s.held && s.link.restartPending && decide (s.link.replies = []) then
      State.endReset { s.deviceReset with resetSource := .restart }
    else s)

end Sys2Proof.Machine
end

