-- ==== Sys2Proof/Machine/Dispatch.lean ====
section
/-!
DEFINITION. Every command's meaning, one arm per constructor of Instr.
-/

namespace Sys2Proof.Machine

/-- The command's effect on everything but the queue of waiting commands. -/
def exec (i : Instr) (s : State) : Host.Outcome State Fault Refusal :=
  match i with
  | .ident tag => Sys2Proof.Machine.execIdent tag s
  | .statusLane tag lane => Sys2Proof.Machine.execStatusLane tag lane s
  | .statusDevice tag => Sys2Proof.Machine.execStatusDevice tag s
  | .laneCfgRead tag lane => Sys2Proof.Machine.execLaneCfgRead tag lane s
  | .laneCfgWrite tag lane fields => Sys2Proof.Machine.execLaneCfgWrite tag lane fields s
  | .laneSetRead tag lane => Sys2Proof.Machine.execLaneSetRead tag lane s
  | .laneSetWrite tag lane fields => Sys2Proof.Machine.execLaneSetWrite tag lane fields s
  | .keymap tag lane first count attr => Sys2Proof.Machine.execKeymap tag lane first count attr s
  | .rule tag index fields => Sys2Proof.Machine.execRule tag index fields s
  | .ruleQ tag index => Sys2Proof.Machine.execRuleQ tag index s
  | .powerOn tag lane => Sys2Proof.Machine.execPowerOn tag lane s
  | .powerOff tag lane => Sys2Proof.Machine.execPowerOff tag lane s
  | .fetchAny tag maximum => Sys2Proof.Machine.execFetchAny tag maximum s
  | .fetchLane tag lane maximum => Sys2Proof.Machine.execFetchLane tag lane maximum s
  | .release tag lane => Sys2Proof.Machine.execRelease tag lane s
  | .flags tag lane setList clearList => Sys2Proof.Machine.execFlags tag lane setList clearList s
  | .inhibitOn tag lane => Sys2Proof.Machine.execInhibitOn tag lane s
  | .inhibitOff tag lane => Sys2Proof.Machine.execInhibitOff tag lane s
  | .tone tag lane tone => Sys2Proof.Machine.execTone tag lane tone s
  | .counts tag lane clear => Sys2Proof.Machine.execCounts tag lane clear s
  | .checkStart tag lane duration => Sys2Proof.Machine.execCheckStart tag lane duration s
  | .checkStop tag lane => Sys2Proof.Machine.execCheckStop tag lane s
  | .checkInsert tag lane => Sys2Proof.Machine.execCheckInsert tag lane s
  | .unlock tag => Sys2Proof.Machine.execUnlock tag s
  | .clrFault tag lane => Sys2Proof.Machine.execClrFault tag lane s
  | .restart tag => Sys2Proof.Machine.execRestart tag s
  | .hostByteArrival byte stopError => Sys2Proof.Machine.execHostByteArrival byte stopError s
  | .hostGapExpiry => Sys2Proof.Machine.execHostGapExpiry s
  | .replySent => Sys2Proof.Machine.execReplySent s
  | .restartReset => Sys2Proof.Machine.execRestartReset s
  | .powerOnReset => Sys2Proof.Machine.execPowerOnReset s
  | .powerOnResetEnd rate1 rate0 => Sys2Proof.Machine.execPowerOnResetEnd rate1 rate0 s
  | .rstAssert => Sys2Proof.Machine.execRstAssert s
  | .rstRelease rate1 rate0 => Sys2Proof.Machine.execRstRelease rate1 rate0 s
  | .pflAssert lane => Sys2Proof.Machine.execPflAssert lane s
  | .settleExpiry lane => Sys2Proof.Machine.execSettleExpiry lane s
  | .sampleArrival lane raw => Sys2Proof.Machine.execSampleArrival lane raw s
  | .typematicExpiry lane => Sys2Proof.Machine.execTypematicExpiry lane s
  | .scannerByteArrival lane byte stopError => Sys2Proof.Machine.execScannerByteArrival lane byte stopError s
  | .frameCompletion lane => Sys2Proof.Machine.execFrameCompletion lane s
  | .scannerGapExpiry lane => Sys2Proof.Machine.execScannerGapExpiry lane s
  | .srxLevelChange lane level => Sys2Proof.Machine.execSrxLevelChange lane level s
  | .breakCharacter lane => Sys2Proof.Machine.execBreakCharacter lane s
  | .breakTimerExpiry lane => Sys2Proof.Machine.execBreakTimerExpiry lane s
  | .commandSent lane => Sys2Proof.Machine.execCommandSent lane s
  | .dsnChange lane level => Sys2Proof.Machine.execDsnChange lane level s
  | .senseStabilityExpiry lane => Sys2Proof.Machine.execSenseStabilityExpiry lane s
  | .pulseExpiry lane => Sys2Proof.Machine.execPulseExpiry lane s
  | .docAssert lane => Sys2Proof.Machine.execDocAssert lane s
  | .confirmExpiry lane => Sys2Proof.Machine.execConfirmExpiry lane s
  | .openLongExpiry lane => Sys2Proof.Machine.execOpenLongExpiry lane s
  | .lkdAssert => Sys2Proof.Machine.execLkdAssert s
  | .lkdDeassert => Sys2Proof.Machine.execLkdDeassert s
  | .reportTimerExpiry lane => Sys2Proof.Machine.execReportTimerExpiry lane s
  | .duplicateWindowExpiry lane => Sys2Proof.Machine.execDuplicateWindowExpiry lane s
  | .checkByteSent lane => Sys2Proof.Machine.execCheckByteSent lane s
  | .checkByteArrival lane byte stopError => Sys2Proof.Machine.execCheckByteArrival lane byte stopError s
  | .checkTimerExpiry lane => Sys2Proof.Machine.execCheckTimerExpiry lane s
  | .pflDeassert lane => Sys2Proof.Machine.execPflDeassert lane s

end Sys2Proof.Machine
end

