-- ==== Sys2Proof/Machine/Queue.lean ====
section
/-!
DEFINITION. The queue of waiting commands, and what the part does while no command waits.
-/

namespace Sys2Proof.Machine

/-- The state with a command put at the front of its queue. -/
def State.pushFront (s : State) (c : Instr) : State := { s with pending := c :: s.pending }

/-- The state with the rest of its queue (Log 1). -/
def State.withRest (s : State) (rest : List Instr) : State := { s with pending := rest }

/-- The state with the command a word spells put at the front of its queue; unchanged when it spells none. -/
def State.pushWord (s : State) (command : Option Instr) : State :=
  match command with
  | some c => s.pushFront c
  | none => s

/-- One millisecond passes: the time base goes up by 1 and wraps (R191). It stands still while the part is held in reset,
since it starts from 0 when the reset ends (R188). DESIGN CHOICE: an idle step is one millisecond (Log 3). -/
def State.tick (s : State) : State := if s.held then s else { s with timeBase := s.timeBase + 1 }

end Sys2Proof.Machine
end

