-- ==== Sys2Proof/Machine/Step.lean ====
section
/-!
DEFINITION. One step: the command at the front of the queue, or one millisecond when none waits.
-/

namespace Sys2Proof.Machine

/-- The part takes the command that waits longest and carries it out whole; while none waits, a millisecond passes
(Log 1, Log 3). -/
def step (s : State) : Host.Outcome State Fault Refusal :=
  match s.pending with
  | c :: rest => exec c (s.withRest rest)
  | [] => .next s.tick

/-- The state whose next command is the one the word spells by the table's bits; no row has bits, so it is the state. -/
def State.withFetchWord (s : State) (nbits w : Nat) : State := s.pushWord (decodeTableWord nbits w)

end Sys2Proof.Machine
end

