-- ==== Sys2Proof/Safety.lean ====
section
/-!
DEFINITION. What claims about the LX8 are stated in: the conditions under which a request is taken, the frames of events
and records, the validity of code rules, and the laws of the device, each a predicate on states. Every command answers
a next state, so a run is safe when its states keep these laws.
-/

namespace Sys2Proof.Machine

/-! ### Settings in range -/

/-- The static settings lie in their ranges (R21, R43, R44, R110). -/
abbrev LaneCfg.InRange (c : LaneCfg) : Prop :=
  1 ≤ c.rows ∧ c.rows ≤ 8 ∧ 1 ≤ c.cols ∧ c.cols ≤ 16 ∧ 2 ≤ c.period ∧ c.period ≤ 16 ∧ 1 ≤ c.debounce ∧
    c.debounce ≤ 8 ∧ 250 ≤ c.typDelay ∧ c.typDelay ≤ 1000 ∧ 33 ≤ c.typPeriod ∧ c.typPeriod ≤ 500 ∧
    (c.rate = 9600 ∨ c.rate = 19200 ∨ c.rate = 38400 ∨ c.rate = 57600 ∨ c.rate = 115200) ∧ 5 ≤ c.gap ∧ c.gap ≤ 50 ∧
    20 ≤ c.pulse ∧ c.pulse ≤ 200 ∧ 100 ≤ c.confirm ∧ c.confirm ≤ 2000

/-- The live settings lie in their ranges (R75, R98, R102, R110, R141). -/
abbrev LaneSet.InRange (c : LaneSet) : Prop :=
  c.valueLimit ≤ 999999 ∧ c.dupWindow ≤ 2550 ∧ c.dupWindow % 10 = 0 ∧ 2 ≤ c.quota ∧ c.quota ≤ 32 ∧ 8 ≤ c.high ∧
    c.high ≤ 28 ∧ c.low + 4 ≤ c.high ∧ 5 ≤ c.openLong ∧ c.openLong ≤ 600 ∧ 1 ≤ c.interval ∧ c.interval ≤ 255

/-! ### Frames -/

/-- The next request is executed: the part is not held in reset, a reply buffer is free and no RESTART is pending
(R177, R188). -/
abbrev State.ready (s : State) : Prop :=
  s.held = false ∧ s.link.replies.length < Config.replyBuffers ∧ s.link.restartPending = false

/-- A reply: kind byte of its request with the top bit set, tag, code and the bytes after the code (R173, R181). -/
def State.answered (s : State) (kind tag : Byte) (code : ReplyCode) (body : List Byte) : State :=
  { s with link := { s.link with replies := s.link.replies ++ [{ kind := kind, tag := tag, code := code, body := body }] } }

/-- The state with one lane replaced and nothing else. -/
def State.withLaneAs (s : State) (l : LaneId) (d : Lane) : State := { s with lanes := s.lanes.set l d }

/-- Between `s` and `t` nothing outside lane `l` changed, but for the pool's free count, the alarm queue and ATTN. -/
structure State.LaneFrame (s t : State) (l : LaneId) : Prop where
  lanes : ∀ k : LaneId, k ≠ l → t.lanes[k] = s.lanes[k]
  rules : t.rules = s.rules
  pointers : t.pointers = s.pointers
  lockdown : t.lockdown = s.lockdown
  lkdLevel : t.lkdLevel = s.lkdLevel
  link : t.link = s.link
  resetCause : t.resetCause = s.resetCause
  resetFlag : t.resetFlag = s.resetFlag
  porHold : t.porHold = s.porHold
  rstAsserted : t.rstAsserted = s.rstAsserted
  resetSource : t.resetSource = s.resetSource
  timeBase : t.timeBase = s.timeBase
  lkdPin : t.lkdPin = s.lkdPin
  pending : t.pending = s.pending

/-- As `LaneFrame`, with the pool's free count and the alarm queue unchanged too. -/
structure State.QuietFrame (s t : State) (l : LaneId) : Prop where
  frame : s.LaneFrame t l
  poolFree : t.poolFree = s.poolFree
  alarms : t.alarms = s.alarms

/-- Between `d` and `e` nothing of the lane changed but what an offered record may change: the lane queue, the FLOW
reason with the scanner commands that answer it, and the live state of SCANNER_HELD (R93, R104). -/
structure Lane.OfferFrame (d e : Lane) : Prop where
  power : e.power = d.power
  cfg : e.cfg = d.cfg
  keymap : e.keymap = d.keymap
  set : e.set = d.set
  keys : e.keys = d.keys
  rx : e.port.rx = d.port.rx
  brk : e.port.brk = d.port.brk
  host : e.port.reasons.host = d.port.reasons.host
  drawerReason : e.port.reasons.drawer = d.port.reasons.drawer
  check : e.port.reasons.check = d.port.reasons.check
  filter : e.filter = d.filter
  drawer : e.drawer = d.drawer
  live : ∀ c : Condition, c ≠ .scannerHeld → e.liveOf c = d.liveOf c
  counters : e.counters = d.counters
  reportTimer : e.reportTimer = d.reportTimer
  checker : e.checker = d.checker
  pins : e.pins = d.pins

/-- The record of a body taken by lane `l` of state `s` (R86, R89, R90, R93). -/
def State.recordOf (s : State) (l : LaneId) (b : RecordBody) : LaneRecord :=
  { lane := l, seq := s.lanes[l].queue.seq, time := s.timeBase, lost := s.lanes[l].queue.loss, body := b }

/-- The record is a CONDITION record. -/
def RecordBody.isCondition : RecordBody → Bool
  | .condition _ _ => true
  | .keyDown _ _ | .keyRepeat _ | .scan _ _ _ _ _ _ | .reject _ _ _ | .keyUp _ | .keylock _ | .drawer _ _ _ _ _
  | .lane _ _ | .counts _ _ | .check _ _ _ _ _ _ => false

/-- The record stands behind everything `d` held, and only CONDITION records follow it. -/
def Lane.Appended (d e : Lane) (r : LaneRecord) : Prop :=
  ∃ more : List LaneRecord,
    e.queue.records = d.queue.records ++ r :: more ∧ ∀ m ∈ more, m.body.isCondition = true

/-- A class B record was offered to the lane, alone but for a SCANNER_HELD record its taking causes: below 32 it is
taken; at 32 the queue changes in its loss count alone (R91, R93, R95). -/
structure State.OfferedB (s t : State) (l : LaneId) (b : RecordBody) : Prop where
  taken : s.lanes[l].count < 32 → s.lanes[l].Appended t.lanes[l] (s.recordOf l b)
  refused : 32 ≤ s.lanes[l].count →
    t.lanes[l].queue = { s.lanes[l].queue with loss := bump8 s.lanes[l].queue.loss } ∧ t.attn = s.attn

/-- No record was offered to the lane. -/
def State.SameQueue (s t : State) (l : LaneId) : Prop := t.lanes[l].queue = s.lanes[l].queue ∧ t.attn = s.attn

/-- A live state was handed to the condition monitor, and nothing else offered a record: an ON lane takes it over, and a
change that the report mode covers is offered as a CONDITION record (R132, R133). -/
structure State.Monitored (s t : State) (l : LaneId) (c : Condition) (b : Bool) : Prop where
  live : t.lanes[l].liveOf c = if s.lanes[l].on then b else s.lanes[l].liveOf c
  others : ∀ k : Condition, k ≠ c → k ≠ .scannerHeld → t.lanes[l].liveOf k = s.lanes[l].liveOf k
  reported :
    s.lanes[l].on = true → s.lanes[l].liveOf c ≠ b →
      (s.lanes[l].modeOf c = .both ∨ (s.lanes[l].modeOf c = .rise ∧ b = true)) → s.OfferedB t l (.condition c b)
  unreported :
    (s.lanes[l].on = false ∨ s.lanes[l].liveOf c = b ∨ s.lanes[l].modeOf c = .off ∨
      (s.lanes[l].modeOf c = .rise ∧ b = false)) → s.SameQueue t l

/-- The disable-reason set of a lane became `r`, and nothing else of the lane changed but the scanner command queue and
the line state. They change only when the desired enable state of an ON lane without a line check changed: the waiting
'E' and 'D' are withdrawn, and a command is appended unless the line state is the desired one already, the newest waiting
tone of a full queue making room (R55, R57, R60). -/
structure Lane.Redirected (d e : Lane) (r : Reasons) : Prop where
  frame : e = { d with port := { d.port with reasons := r, cmds := e.port.cmds, lineState := e.port.lineState } }
  still :
    (d.on = false ∨ d.checking = true ∨ d.port.reasons.desired = r.desired) →
      e.port.cmds = d.port.cmds ∧ e.port.lineState = d.port.lineState
  withdrawn :
    d.on = true → d.checking = false → d.port.reasons.desired ≠ r.desired → d.port.lineState = some r.desired →
      e.port.cmds = d.port.cmds.take 1 ++ d.port.cmds.tail.filter ScanCmd.isTone ∧
        e.port.lineState = d.port.lineState
  appended :
    d.on = true → d.checking = false → d.port.reasons.desired ≠ r.desired → d.port.lineState ≠ some r.desired →
      d.port.cmds.length ≤ 4 →
        e.port.cmds =
          (d.port.cmds.take 1 ++ d.port.cmds.tail.filter ScanCmd.isTone).take 3 ++ [.enable r.desired] ∧
        e.port.lineState = if d.port.cmds = [] then some r.desired else d.port.lineState

/-- The enable state was re-stated: a waiting 'E' or 'D' is removed and the command of the desired state appended, the
newest waiting tone of a full queue making room; the line state becomes none, and the command itself where it begins at
once (R56). -/
structure Lane.Restated (d e : Lane) : Prop where
  frame : e = { d with port := { d.port with cmds := e.port.cmds, lineState := e.port.lineState } }
  cmds :
    d.port.cmds.length ≤ 4 →
      e.port.cmds =
        (d.port.cmds.take 1 ++ d.port.cmds.tail.filter ScanCmd.isTone).take 3 ++ [.enable d.port.reasons.desired]
  lineState : e.port.lineState = if d.port.cmds = [] then some d.port.reasons.desired else none

/-- The scanner command queue after a tone was offered to an ON lane without a line check (R54). -/
def ScannerPort.withTone (p : ScannerPort) (t : Tone) : List ScanCmd :=
  if (p.cmds.tail.filter ScanCmd.isTone).length ≤ 2 ∧ p.cmds.length ≤ 3 then p.cmds ++ [.tone t] else p.cmds

/-- An ON lane without a line check after a frame's outcome offered its tone, or none: under confirm tones the tone joins
the command queue as R54 admits it (R61). -/
def Lane.toned (d : Lane) (t : Option Tone) : Lane :=
  match t with
  | none => d
  | some x => if d.set.confirmTones then { d with port := { d.port with cmds := d.port.withTone x } } else d

/-! ### A record, FLOW and the monitor, on one lane

The relations below say everything that offering a record and handing a live state on do to a lane. -/

/-- The lane with a record taken, FLOW not yet evaluated (R86, R89, R93 steps 1 to 3). -/
def Lane.taking (d : Lane) (l : LaneId) (now : Time) (b : RecordBody) : Lane :=
  { d with
    queue :=
      { records := d.queue.records ++ [{ lane := l, seq := d.queue.seq, time := now, lost := d.queue.loss, body := b }]
        seq := d.queue.seq + 1, loss := 0, held := d.queue.held + b.slots } }

/-- The lane with a class B record refused (R95). -/
def Lane.losing (d : Lane) : Lane := { d with queue := { d.queue with loss := bump8 d.queue.loss } }

/-- The lane with one live state of the monitor replaced (R132). -/
def Lane.withLive (d : Lane) (c : Condition) (live : Bool) : Lane := { d with live := d.live.set c.idx live }

/-- The report mode of the condition covers a change to `live` (R132). -/
abbrev Lane.Reports (d : Lane) (c : Condition) (live : Bool) : Prop :=
  d.modeOf c = .both ∨ (d.modeOf c = .rise ∧ live = true)

/-- FLOW as one evaluation finds it (R103). -/
def Lane.flowOf (d : Lane) : Bool :=
  if d.set.high ≤ d.queue.records.length ∨ d.set.quota ≤ d.queue.held then true
  else if d.queue.records.length ≤ d.set.low ∧ d.queue.held + 2 ≤ d.set.quota then false
  else d.port.reasons.flow

/-- FLOW was evaluated on lane `l` at `now`. Where it stays, nothing changes. A change of it, the settings being in their
ranges, moves the disable-reason set with the scanner commands that follow, and on an ON lane becomes the live state of
SCANNER_HELD; the CONDITION record that reports it is taken, or at 32 records lost (R103, R104, R136). -/
structure Lane.FlowEvaluated (d e : Lane) (l : LaneId) (now : Time) : Prop where
  frame : d.OfferFrame e
  still : d.flowOf = d.port.reasons.flow → e = d
  port : d.set.InRange → ∃ x, d.Redirected x { d.port.reasons with flow := d.flowOf } ∧ e.port = x.port
  held :
    d.set.InRange →
      e.liveOf .scannerHeld =
        if d.on = true ∧ d.flowOf ≠ d.port.reasons.flow then d.flowOf else d.liveOf .scannerHeld
  queue :
    d.set.InRange →
      e.queue =
        if d.on = true ∧ d.flowOf ≠ d.port.reasons.flow ∧ d.flowOf ≠ d.liveOf .scannerHeld ∧
            d.Reports .scannerHeld d.flowOf then
          if d.count < 32 then (d.taking l now (.condition .scannerHeld d.flowOf)).queue else d.losing.queue
        else d.queue

/-- A class B record was offered to lane `l` at `now`: below 32 records it is taken and FLOW evaluated, at 32 the loss
count alone changes (R91, R93, R95). -/
structure Lane.Offered (d e : Lane) (l : LaneId) (now : Time) (b : RecordBody) : Prop where
  taken : d.count < 32 → (d.taking l now b).FlowEvaluated e l now
  refused : 32 ≤ d.count → e = d.losing

/-- A live state was handed to the condition monitor of lane `l` at `now`: outside ON, and where it is no change, nothing
happens; otherwise it stands, and a change that the report mode covers is offered as a CONDITION record (R132, R133). -/
structure Lane.HandedOver (d e : Lane) (l : LaneId) (now : Time) (c : Condition) (live : Bool) : Prop where
  same : d.on = false ∨ d.liveOf c = live → e = d
  unreported : d.on = true → d.liveOf c ≠ live → ¬d.Reports c live → e = d.withLive c live
  reported : d.on = true → d.liveOf c ≠ live → d.Reports c live →
    (d.withLive c live).Offered e l now (.condition c live)

/-- An event whose lane counters began at `before` closed: COUNTER_FULL was evaluated if one of them changed (R138). -/
structure Lane.Closed (d e : Lane) (l : LaneId) (now : Time) (before : Counters) : Prop where
  same : d.counters = before → e = d
  changed : d.counters ≠ before → d.HandedOver e l now .counterFull d.counters.full

/-! ### Outcomes of events -/

/-- A frame in assembly was aborted, the receiver going on as `rx`: FRAME_ERR is raised, under confirm tones a 'B' is
offered, and where the counter moved COUNTER_FULL is evaluated (R46, R61, R138). The last clause says the lane whole. -/
structure State.FrameAborted (s t : State) (l : LaneId) (rx : Receiver) : Prop where
  frame : s.QuietFrame t l
  lane :
    Lane.OfferFrame
      { s.lanes[l] with
        port := { s.lanes[l].port with rx := rx }
        counters := { s.lanes[l].counters with frameErr := bump16 s.lanes[l].counters.frameErr }
        live := t.lanes[l].live } t.lanes[l]
  others :
    ∀ c : Condition, c ≠ .counterFull → c ≠ .scannerHeld → t.lanes[l].liveOf c = s.lanes[l].liveOf c
  counterFull :
    s.lanes[l].counters.frameErr < 65535 →
      s.Monitored t l .counterFull
        (Counters.full { s.lanes[l].counters with frameErr := s.lanes[l].counters.frameErr + 1 })
  closed :
    Lane.Closed
      (Lane.toned
        { s.lanes[l] with
          port := { s.lanes[l].port with rx := rx }
          counters := { s.lanes[l].counters with frameErr := bump16 s.lanes[l].counters.frameErr } }
        (some .bad))
      t.lanes[l] l s.timeBase s.lanes[l].counters

/-- The lane queue takes a record with a code: the count is below 28, a slot is within the quota and a slot is free (R91,
R92). -/
abbrev State.roomForCode (s : State) (l : LaneId) : Prop :=
  s.lanes[l].count < 28 ∧ s.lanes[l].queue.held < s.lanes[l].set.quota ∧ 0 < s.poolFree

/-- A frame was completed and its code met its outcome: the receiver is IDLE, the record of the outcome (if any) was taken
with a slot of the pool and FLOW evaluated, the counters and the filter became the ones given, the tone was offered under
confirm tones, behind the scanner command of a changed FLOW, and COUNTER_FULL was evaluated. The last clause says the lane
whole, in this order (R49, R61, R83, R93, R138). -/
structure State.FrameOutcome (s t : State) (l : LaneId) (record : Option RecordBody) (counters : Counters)
    (filter : DupFilter) (tone : Option Tone) : Prop where
  frame : s.LaneFrame t l
  alarms : t.alarms = s.alarms
  lane :
    Lane.OfferFrame
      { s.lanes[l] with
        port := { s.lanes[l].port with rx := Receiver.reset }
        counters := counters
        filter := filter
        live := t.lanes[l].live } t.lanes[l]
  others :
    ∀ c : Condition, c ≠ .counterFull → c ≠ .scannerHeld → t.lanes[l].liveOf c = s.lanes[l].liveOf c
  counterFull : counters ≠ s.lanes[l].counters → t.lanes[l].liveOf .counterFull = counters.full
  pool : t.poolFree = if record.isSome then s.poolFree - 1 else s.poolFree
  held : t.lanes[l].queue.held = s.lanes[l].queue.held + if record.isSome then 1 else 0
  taken : ∀ b, record = some b → s.lanes[l].Appended t.lanes[l] (s.recordOf l b)
  untaken :
    record = none →
      ∃ more, t.lanes[l].queue.records = s.lanes[l].queue.records ++ more ∧ ∀ m ∈ more, m.body.isCondition = true
  whole :
    ∀ base : Lane,
      base =
        { s.lanes[l] with
          port := { s.lanes[l].port with rx := Receiver.reset }
          counters := counters
          filter := filter } →
      ∃ flowed,
        (record = none → flowed = base) ∧
        (∀ b, record = some b → (base.taking l s.timeBase b).FlowEvaluated flowed l s.timeBase) ∧
        (flowed.toned tone).Closed t.lanes[l] l s.timeBase s.lanes[l].counters

/-- A line check ended: its CHECK record was offered with the tallies and the state it ended in, the checker is idle with
its window, run and history empty and its tallies kept, the receiver is IDLE, CHECK is removed, and the command of the
desired enable state is on the line (R60, R170). -/
structure State.CheckEnded (s t : State) (l : LaneId) (cause : EndCause) : Prop where
  record :
    s.OfferedB t l
      (.check s.lanes[l].checker.bytesSent s.lanes[l].checker.bytesMatched s.lanes[l].checker.mismatches
        s.lanes[l].checker.lockLosses (decide (s.lanes[l].checker.state = .locked)) cause)
  lane :
    Lane.OfferFrame
      { s.lanes[l] with
        port :=
          { s.lanes[l].port with
            rx := Receiver.reset
            reasons := { s.lanes[l].port.reasons with check := false } }
        checker :=
          { s.lanes[l].checker with
            state := .idle, timer := none, sent := [], run := 0, history := [], insert := false
            sending := none } } t.lanes[l]
  cmds : t.lanes[l].port.cmds = [.enable t.lanes[l].port.reasons.desired]
  lineState : t.lanes[l].port.lineState = some t.lanes[l].port.reasons.desired
  whole :
    ∃ m : Lane,
      Lane.Offered
        { s.lanes[l] with
          checker := { s.lanes[l].checker with sending := none, timer := none, insert := false } }
        m l s.timeBase
        (.check s.lanes[l].checker.bytesSent s.lanes[l].checker.bytesMatched s.lanes[l].checker.mismatches
          s.lanes[l].checker.lockLosses (decide (s.lanes[l].checker.state = .locked)) cause) ∧
      Lane.Restated
        { m with
          port := { m.port with rx := Receiver.reset, reasons := { m.port.reasons with check := false } }
          checker := { m.checker with state := .idle, sent := [], run := 0, history := [] } }
        t.lanes[l]

/-- The row is a request of the host (chapter 10). -/
def isRequest : Instr → Bool
  | .ident _ | .statusLane _ _ | .statusDevice _ | .laneCfgRead _ _ | .laneCfgWrite _ _ _ | .laneSetRead _ _
  | .laneSetWrite _ _ _ | .keymap _ _ _ _ _ | .rule _ _ _ | .ruleQ _ _ | .powerOn _ _ | .powerOff _ _ | .fetchAny _ _
  | .fetchLane _ _ _ | .release _ _ | .flags _ _ _ _ | .inhibitOn _ _ | .inhibitOff _ _ | .tone _ _ _ | .counts _ _ _
  | .checkStart _ _ _ | .checkStop _ _ | .checkInsert _ _ | .unlock _ | .clrFault _ _ | .restart _ => true
  | .hostByteArrival _ _ | .hostGapExpiry | .replySent | .restartReset | .powerOnReset | .powerOnResetEnd _ _
  | .rstAssert | .rstRelease _ _ | .pflAssert _ | .settleExpiry _ | .sampleArrival _ _ | .typematicExpiry _
  | .scannerByteArrival _ _ _ | .frameCompletion _ | .scannerGapExpiry _ | .srxLevelChange _ _ | .breakCharacter _
  | .breakTimerExpiry _ | .commandSent _ | .dsnChange _ _ | .senseStabilityExpiry _ | .pulseExpiry _ | .docAssert _
  | .confirmExpiry _ | .openLongExpiry _ | .lkdAssert | .lkdDeassert | .reportTimerExpiry _
  | .duplicateWindowExpiry _ | .checkByteSent _ | .checkByteArrival _ _ _ | .checkTimerExpiry _ | .pflDeassert _ => false

/-- The row starts or ends a power-on reset or an RST reset (R188). -/
def isHoldRow : Instr → Bool
  | .powerOnReset | .powerOnResetEnd _ _ | .rstAssert | .rstRelease _ _ => true
  | .ident _ | .statusLane _ _ | .statusDevice _ | .laneCfgRead _ _ | .laneCfgWrite _ _ _ | .laneSetRead _ _
  | .laneSetWrite _ _ _ | .keymap _ _ _ _ _ | .rule _ _ _ | .ruleQ _ _ | .powerOn _ _ | .powerOff _ _ | .fetchAny _ _
  | .fetchLane _ _ _ | .release _ _ | .flags _ _ _ _ | .inhibitOn _ _ | .inhibitOff _ _ | .tone _ _ _ | .counts _ _ _
  | .checkStart _ _ _ | .checkStop _ _ | .checkInsert _ _ | .unlock _ | .clrFault _ _ | .restart _
  | .hostByteArrival _ _ | .hostGapExpiry | .replySent | .restartReset | .pflAssert _ | .settleExpiry _
  | .sampleArrival _ _ | .typematicExpiry _ | .scannerByteArrival _ _ _ | .frameCompletion _ | .scannerGapExpiry _
  | .srxLevelChange _ _ | .breakCharacter _ | .breakTimerExpiry _ | .commandSent _ | .dsnChange _ _
  | .senseStabilityExpiry _ | .pulseExpiry _ | .docAssert _ | .confirmExpiry _ | .openLongExpiry _ | .lkdAssert
  | .lkdDeassert | .reportTimerExpiry _ | .duplicateWindowExpiry _ | .checkByteSent _ | .checkByteArrival _ _ _
  | .checkTimerExpiry _ | .pflDeassert _ => false

/-- The lane a lane byte names. -/
def laneOfByte (b : Byte) : Option LaneId := if h : b.toNat < 8 then some ⟨b.toNat, h⟩ else none

/-- The one lane a row acts on: the lane of a lane event, or the lane a lane request names. -/
def laneNamed : Instr → Option LaneId
  | .pflAssert l | .settleExpiry l | .sampleArrival l _ | .typematicExpiry l | .scannerByteArrival l _ _
  | .frameCompletion l | .scannerGapExpiry l | .srxLevelChange l _ | .breakCharacter l | .breakTimerExpiry l
  | .commandSent l | .dsnChange l _ | .senseStabilityExpiry l | .pulseExpiry l | .docAssert l | .confirmExpiry l
  | .openLongExpiry l | .reportTimerExpiry l | .duplicateWindowExpiry l | .checkByteSent l | .checkByteArrival l _ _
  | .checkTimerExpiry l | .pflDeassert l => some l
  | .statusLane _ b | .laneCfgRead _ b | .laneCfgWrite _ b _ | .laneSetRead _ b | .laneSetWrite _ b _
  | .keymap _ b _ _ _ | .powerOn _ b | .powerOff _ b | .fetchLane _ b _ | .release _ b | .flags _ b _ _
  | .inhibitOn _ b | .inhibitOff _ b | .tone _ b _ | .counts _ b _ | .checkStart _ b _ | .checkStop _ b
  | .checkInsert _ b | .clrFault _ b => laneOfByte b
  | .ident _ | .statusDevice _ | .rule _ _ _ | .ruleQ _ _ | .fetchAny _ _ | .unlock _ | .restart _
  | .hostByteArrival _ _ | .hostGapExpiry | .replySent | .restartReset | .powerOnReset | .powerOnResetEnd _ _
  | .rstAssert | .rstRelease _ _ | .lkdAssert | .lkdDeassert => none

/-! ### Lane-local reset (R9) -/

/-- The working blocks of the lane hold the values of the lane-local reset (R9). -/
abbrev Lane.AtLocalReset (d : Lane) : Prop :=
  d.keys = .reset ∧ d.port = { ScannerPort.reset with reasons := { Reasons.empty with flow := d.port.reasons.flow } } ∧
    d.filter = .cleared ∧ d.drawer = { Drawer.reset with flags := d.drawer.flags } ∧
    d.live = Vector.replicate 8 false ∧ d.reportTimer = none ∧
    d.checker = { LineChecker.reset with freeIdx := d.checker.freeIdx }

/-- What the lane-local reset keeps and no LANE record changes (R10). -/
abbrev Lane.KeptByReset (d e : Lane) : Prop :=
  e.cfg = d.cfg ∧ e.keymap = d.keymap ∧ e.set = d.set ∧ e.counters = d.counters ∧ e.drawer.flags = d.drawer.flags

/-- The lane as it leaves for `dest`, before its LANE record: PENn deasserted, the settle timer stopped, the start
time kept and the blocks reset (R1, R6, R7, R9, R10). -/
def Lane.departed (d : Lane) (dest : LaneState) : Lane :=
  { d with
    power := { state := dest, progress := none, start := d.power.start, timer := none, pen := false }
    keys := .reset
    port := { ScannerPort.reset with reasons := { Reasons.empty with flow := d.port.reasons.flow } }
    filter := .cleared
    drawer := { Drawer.reset with flags := d.drawer.flags }
    live := Vector.replicate 8 false
    reportTimer := none
    checker := { LineChecker.reset with freeIdx := d.checker.freeIdx } }

/-- Between `s` and `t` lane `l` left for `dest`, its last progress being `progress`: PENn deasserted, the settle timer
stopped, the start time kept, the blocks reset, the LANE record offered. The CHECK record of a running check is offered
ahead of the reset, while the lane is ON and the check runs, so a FLOW it changes is handed to the monitor, and a
SCANNER_HELD record may stand between the two (R1, R6, R7, R9 to R11, R104, R170, Log 9). The last clause says the lane
whole. -/
structure State.LaneLeft (s t : State) (l : LaneId) (dest : LaneState) (progress : Option Milestone) : Prop where
  power : t.lanes[l].power =
    { state := dest, progress := none, start := s.lanes[l].power.start, timer := none, pen := false }
  blocks : t.lanes[l].AtLocalReset
  kept : s.lanes[l].KeptByReset t.lanes[l]
  pins : t.lanes[l].pins = s.lanes[l].pins
  freeIdx : t.lanes[l].checker.freeIdx = s.lanes[l].checker.freeIdx
  alone : s.lanes[l].checking = false → s.OfferedB t l (.lane dest progress)
  afterCheck : s.lanes[l].checking = true → s.lanes[l].count < 31 →
    (s.lanes[l].taking l s.timeBase (s.lanes[l].checker.report .lane)).flowOf = s.lanes[l].port.reasons.flow →
    t.lanes[l].queue.records =
      s.lanes[l].queue.records ++
        [s.recordOf l (s.lanes[l].checker.report .lane),
          { s.recordOf l (.lane dest progress) with seq := s.lanes[l].queue.seq + 1, lost := 0 }]
  heldAfterCheck : s.lanes[l].checking = true → s.lanes[l].on = true → s.lanes[l].count < 30 →
    s.lanes[l].set.InRange → s.lanes[l].port.reasons.flow = false → s.lanes[l].liveOf .scannerHeld = false →
    s.lanes[l].Reports .scannerHeld true →
    (s.lanes[l].taking l s.timeBase (s.lanes[l].checker.report .lane)).flowOf = true →
    t.lanes[l].queue.records =
      s.lanes[l].queue.records ++
        [s.recordOf l (s.lanes[l].checker.report .lane),
          { s.recordOf l (.condition .scannerHeld true) with seq := s.lanes[l].queue.seq + 1, lost := 0 },
          { s.recordOf l (.lane dest progress) with seq := s.lanes[l].queue.seq + 2, lost := 0 }]
  whole :
    ∃ m : Lane,
      (s.lanes[l].checking = false → m = s.lanes[l].departed dest) ∧
      (s.lanes[l].checking = true →
        ∃ reported : Lane,
          Lane.Offered
            { s.lanes[l] with
              checker := { s.lanes[l].checker with sending := none, timer := none, insert := false } }
            reported l s.timeBase (s.lanes[l].checker.report .lane) ∧
          m = reported.departed dest) ∧
      m.Offered t.lanes[l] l s.timeBase (.lane dest progress)

/-! ### The validity of a code rule (R63, R64) -/

/-- The characters of a code belong to its class (R45). -/
abbrev Code.admitted (c : Code) : Prop := ∀ b ∈ c.chars, c.cls.admits b = true

/-- The value field lies inside every code the entry can match, and short of the check digit under MOD10 (R64). -/
abbrev ValueField.fits (f : ValueField) (minLen : Nat) (mod10 : Bool) : Prop :=
  1 ≤ f.start ∧ 1 ≤ f.count ∧ f.count ≤ 6 ∧ f.scale ≤ 3 ∧ f.start + f.count - 1 ≤ minLen ∧
    (mod10 = true → f.start + f.count - 1 ≤ minLen - 1)

/-- The validity conditions of R64 on an entry as held. -/
abbrev CodeRule.Valid (r : CodeRule) : Prop :=
  1 ≤ r.minLen ∧ r.minLen ≤ r.maxLen ∧ r.maxLen ≤ 48 ∧ r.pattern.length ≤ 8 ∧ r.pattern.length ≤ r.minLen ∧
    (∀ e ∈ r.pattern, ∀ b ∈ e, r.cls.admits b = true) ∧
    (r.mod10 = true ∨ r.value.isSome = true → r.cls = .numeric) ∧ (r.mod10 = true → 2 ≤ r.minLen) ∧
    (∀ f ∈ r.value, f.fits r.minLen r.mod10)

end Sys2Proof.Machine

namespace Sys2Proof

open Machine

/-- None of the refusals of R64 holds for the fields of a RULE, one line for each line of the rule's list. -/
abbrev RuleFields.Acceptable (f : RuleFields) : Prop :=
  (f.active.toNat ≤ 1 ∧ (f.cls = 0x4E#8 ∨ f.cls = 0x41#8 ∨ f.cls = 0x2A#8) ∧ f.check.toNat ≤ 1 ∧ f.action.toNat ≤ 1 ∧
    f.valuePresent.toNat ≤ 1) ∧
  (1 ≤ f.minLen.toNat ∧ f.minLen.toNat ≤ f.maxLen.toNat ∧ f.maxLen.toNat ≤ 48) ∧
  (f.patLen.toNat ≤ 8 ∧ f.patLen.toNat ≤ f.minLen.toNat) ∧
  (∀ i : Fin 8, i.val < f.patLen.toNat → f.pattern[i] ≠ 0#8 →
    if f.cls = 0x4E#8 then 0x30 ≤ f.pattern[i].toNat ∧ f.pattern[i].toNat ≤ 0x39
    else 0x20 ≤ f.pattern[i].toNat ∧ f.pattern[i].toNat ≤ 0x7E) ∧
  (f.check = 1#8 ∨ f.valuePresent = 1#8 → f.cls = 0x4E#8) ∧
  (f.check = 1#8 → f.minLen.toNat ≠ 1) ∧
  (f.valuePresent = 1#8 → f.start.toNat ≠ 0 ∧ 1 ≤ f.count.toNat ∧ f.count.toNat ≤ 6 ∧ f.scale.toNat ≤ 3) ∧
  (f.valuePresent = 1#8 → f.start.toNat + f.count.toNat - 1 ≤ f.minLen.toNat) ∧
  (f.valuePresent = 1#8 → f.check = 1#8 → f.start.toNat + f.count.toNat - 1 ≤ f.minLen.toNat - 1) ∧
  f.tag.toNat ≤ 15

end Sys2Proof

namespace Sys2Proof.Machine

/-! ### The laws of the device -/

/-- ATTN is asserted exactly when some record waits (R160). -/
abbrev State.AttnLaw (s : State) : Prop := s.attn = s.waiting

/-- The pool's free count and the SCAN and REJECT records of the eight queues make 96, and each lane's held slot count
is the number of its own (R85, R97). -/
abbrev State.PoolLaw (s : State) : Prop :=
  (∀ l : LaneId, s.lanes[l].queue.held = slotCount s.lanes[l].queue.records) ∧
    s.poolFree + (s.lanes.toList.map fun d => slotCount d.queue.records).sum = Config.poolSize

/-- A lane queue holds at most 32 records, class A records in its first 28 places alone, sequence numbers that run
consecutively up to the counter, records of its own lane, and counts of one byte (R85, R86, R89, R91). -/
abbrev Lane.QueueLaw (d : Lane) (l : LaneId) : Prop :=
  d.queue.records.length ≤ 32 ∧
    (∀ i : Fin d.queue.records.length, d.queue.records[i].body.classA = true → i.val < 28) ∧
    (∀ i : Fin d.queue.records.length,
      d.queue.records[i].seq + BitVec.ofNat 16 (d.queue.records.length - i.val) = d.queue.seq) ∧
    (∀ r ∈ d.queue.records, r.lane = l ∧ r.lost ≤ 255) ∧ d.queue.loss ≤ 255

/-- Every lane queue keeps its law. -/
abbrev State.QueueLaw (s : State) : Prop := ∀ l : LaneId, s.lanes[l].QueueLaw l

/-- An alarm names a lane unless it is LOCKDOWN, and stands for 1 to 255 raises (R148). -/
abbrev Alarm.wellFormed (a : Alarm) : Prop := (a.lane = none ↔ a.kind = .lockdown) ∧ 1 ≤ a.repeats ∧ a.repeats ≤ 255

/-- No two alarm records have the same kind and lane, and there are at most 25 (R148, R149). -/
abbrev State.AlarmLaw (s : State) : Prop :=
  (s.alarms.map fun a => (a.kind, a.lane)).Nodup ∧ (∀ a ∈ s.alarms, a.wellFormed) ∧ s.alarms.length ≤ 25

/-- DRVn is energized exactly in RELEASING, and RELEASING needs the lane ON, the lockdown latch clear, the driver-fault
latch clear and a running pulse (R116). -/
abbrev State.DrawerLaw (s : State) : Prop :=
  ∀ l : LaneId,
    (s.lanes[l].drawer.drv = true ↔ s.lanes[l].drawer.state = .releasing) ∧
      (s.lanes[l].drawer.state = .releasing →
        s.lanes[l].on = true ∧ s.lockdown = false ∧ s.lanes[l].drawer.fault = false ∧
          s.lanes[l].drawer.pulse.isSome = true)

/-- The table of R1: PENn, the settle timer and the progress by lane state. -/
abbrev Lane.PowerLaw (d : Lane) : Prop :=
  (d.power.pen = d.powered) ∧ (d.powered = false → d.power.progress = none ∧ d.power.timer = none) ∧
    (d.powered = true →
      d.power.start.isSome = true ∧
        d.power.timer = d.power.start.bind fun start => (nextMilestone d.power.progress).map (milestonePoint start)) ∧
    (d.power.state = .settling → ∀ m ∈ d.power.progress, m < d.cfg.settle) ∧
    (d.power.state = .on → d.power.progress.isSome = true ∧ ∀ m ∈ d.power.progress, d.cfg.settle ≤ m)

/-- Every lane keeps the table of R1, and outside ON its working blocks hold their reset values (R1, R9). -/
abbrev State.PowerLaw (s : State) : Prop :=
  ∀ l : LaneId, s.lanes[l].PowerLaw ∧ (s.lanes[l].on = false → s.lanes[l].AtLocalReset)

/-- The down list, the marks and the typematic timer of a lane (R22, R26, R27, R30, R33, R42). -/
abbrev Lane.KeyLaw (d : Lane) : Prop :=
  d.keys.downList.length ≤ 6 ∧ d.keys.downList.Nodup ∧
    (∀ p ∈ d.keys.downList, d.keymap[p].isKey = true ∧ d.keys.cells[p].down = true ∧ d.keys.cells[p].mark = .none) ∧
    (∀ p : KeyPos, d.keymap[p].isKey = true → d.keys.cells[p].down = true → p ∉ d.keys.downList →
      d.keys.cells[p].mark ≠ .none) ∧
    (∀ p : KeyPos, d.keymap[p].isKey = false ∨ d.keys.cells[p].down = false → d.keys.cells[p].mark = .none) ∧
    (∀ p : KeyPos, d.keymap[p] = .unused → d.keys.cells[p].down = false ∧ d.keys.cells[p].count = 0) ∧
    d.keys.rollover = d.keys.anyBlocked ∧
    (∀ t ∈ d.keys.typematic, d.keys.downList.getLast? = some t.pos) ∧
    (d.on = false → d.keys = .reset)

/-- Every lane keeps the laws of its keyboard. -/
abbrev State.KeyLaw (s : State) : Prop := ∀ l : LaneId, s.lanes[l].KeyLaw

/-- A scanner command queue holds at most 4 entries, and at most one 'E' or 'D' that has not started (R53, R55). -/
abbrev State.CommandLaw (s : State) : Prop :=
  ∀ l : LaneId,
    s.lanes[l].port.cmds.length ≤ 4 ∧ (s.lanes[l].port.cmds.tail.filter fun c => !c.isTone).length ≤ 1

/-- The receive assembly of a scanner port (R45). -/
abbrev Receiver.Law (rx : Receiver) : Prop :=
  (rx.state = .idle → rx = .reset) ∧ rx.chars.length ≤ 48 ∧ (rx.cls = none → rx.chars = []) ∧
    (∀ c ∈ rx.cls, ∀ b ∈ rx.chars, c.admits b = true) ∧
    (rx.state = .awaitBcc → rx.cls.isSome = true ∧ rx.chars ≠ [])

/-- A SCAN record carries 1 to 48 characters of its class; a value part holds a value of at most 999999, a scale of at
most 3 and a lookup key as long as the code; and where the rule applied MOD10 the code and the lookup key satisfy the
check (R71, R73, R74, R87). Other records carry nothing to test here. -/
def RecordBody.sound : RecordBody → Prop
  | .scan code _ _ checked _ value =>
    1 ≤ code.chars.length ∧ code.chars.length ≤ 48 ∧ code.admitted ∧ (checked = true → mod10Passes code.chars = true) ∧
      ∀ v ∈ value,
        v.value ≤ 999999 ∧ v.scale ≤ 3 ∧ v.lookup.length = code.chars.length ∧
          (checked = true → mod10Passes v.lookup = true)
  | .keyDown _ _ | .keyRepeat _ | .reject _ _ _ | .keyUp _ | .keylock _ | .drawer _ _ _ _ _ | .lane _ _
  | .condition _ _ | .counts _ _ | .check _ _ _ _ _ _ => True

/-- The rule table holds valid entries, every receive assembly is in order, and every SCAN record is sound. -/
def State.ScanLaw (s : State) : Prop :=
  (∀ i : RuleIdx, s.rules[i].Valid) ∧
    ∀ l : LaneId, s.lanes[l].port.rx.Law ∧ ∀ r ∈ s.lanes[l].queue.records, r.body.sound

/-- Every lane counter stays within 0 to 65535 (R139). -/
abbrev State.CounterLaw (s : State) : Prop :=
  ∀ l : LaneId,
    s.lanes[l].counters.good ≤ 65535 ∧ s.lanes[l].counters.checkFail ≤ 65535 ∧ s.lanes[l].counters.rejected ≤ 65535 ∧
      s.lanes[l].counters.duplicate ≤ 65535 ∧ s.lanes[l].counters.overrun ≤ 65535 ∧
      s.lanes[l].counters.frameErr ≤ 65535

/-- Every setting of every lane lies in its range. -/
abbrev State.SettingsLaw (s : State) : Prop :=
  ∀ l : LaneId, s.lanes[l].cfg.InRange ∧ s.lanes[l].set.InRange

/-- The host link receiver: its gap timer runs outside HUNT alone, LEN is in range once received, and the body holds what
the state says (R173, R175). -/
abbrev HostRx.Law (rx : HostRx) : Prop :=
  (rx.state = .hunt ↔ rx.gap = none) ∧
    (rx.state = .body → rx.body.length < rx.len.toNat ∧ 2 ≤ rx.len.toNat ∧ rx.len.toNat ≤ 1030) ∧
    (rx.state = .crcLow ∨ rx.state = .crcHigh →
      rx.body.length = rx.len.toNat ∧ 2 ≤ rx.len.toNat ∧ rx.len.toNat ≤ 1030)

/-- The host link holds at most two replies, its error counter stays within 0 to 65535 and its receiver is in order
(R175, R176, R178). -/
abbrev State.LinkLaw (s : State) : Prop :=
  s.link.replies.length ≤ 2 ∧ s.link.errors ≤ 65535 ∧ s.link.rx.Law

end Sys2Proof.Machine
end

