-- ==== Sys2Proof/Certificates/Slice0/Obligations.lean ====
section
/-!
DEFINITION. The statements about the LX8. In each, `s` is the state before a command and `t` after it, `l` a lane, `tag` a
request's tag. A request is taken when `s.ready`; an event is heard when `s.held = false`.
-/

open Sys2Proof Sys2Proof.Machine

/-! ### The step and the reach of a command -/

/-- The part carries out the command that waits longest; while none waits, one millisecond passes, unless the part is
held in reset. The queue and the idle step are the model's own (Log 1, Log 3). -/
def Obligations.StepTakesTheFrontCommand : Prop :=
  (∀ (c : Instr) (rest : List Instr) (s : State),
    step { s with pending := c :: rest } = exec c { s with pending := rest }) ∧
  ∀ s : State, s.pending = [] →
    step s = .next (if s.porHold || s.rstAsserted then s else { s with timeBase := s.timeBase + 1 })

/-- Every command answers a next state and leaves the queue of waiting commands alone; one that names a lane leaves every
other lane, the rule table, the rotation pointers, the lockdown latch and the time base as they were.
That no command ends in a stop is deduced from the spec, which describes none (Log 8). -/
def Obligations.CommandsStayInTheirLane : Prop :=
  ∀ (c : Instr) (s : State), ∃ t, exec c s = .next t ∧ t.pending = s.pending ∧
    ∀ l, laneNamed c = some l →
      (∀ k : LaneId, k ≠ l → t.lanes[k] = s.lanes[k]) ∧ t.rules = s.rules ∧ t.pointers = s.pointers ∧
        t.lockdown = s.lockdown ∧ t.timeBase = s.timeBase

/-- A request is discarded when both reply buffers hold replies (counted) or a RESTART is pending (uncounted); while the
part is held in reset, nothing but the levels outside it changes under any row that does not itself start or end such a
reset (R177, R188).
That a request is counted when a RESTART is pending and both buffers are full too is the model's reading of R177 beside
R189 (Log 24), and that the levels outside the part still move while it is held is its reading too (Log 20). -/
def Obligations.RequestsDiscardedAndInputsUnheard : Prop :=
  (∀ (c : Instr) (s : State), isRequest c = true → s.held = false → 2 ≤ s.link.replies.length →
    exec c s = .next
      { s with link := { s.link with errors := if s.link.errors < 65535 then s.link.errors + 1 else 65535 } }) ∧
  (∀ (c : Instr) (s : State), isRequest c = true → s.held = false → s.link.replies.length < 2 →
    s.link.restartPending = true → exec c s = .next s) ∧
  ∀ (c : Instr) (s : State), isHoldRow c = false → s.held = true →
    ∃ t, exec c s = .next t ∧ t = { s with lanes := t.lanes, lkdPin := t.lkdPin } ∧
      ∀ k : LaneId, t.lanes[k] = { s.lanes[k] with pins := t.lanes[k].pins }

/-! ### IDENT, STATUS, RESTART and the replies -/

/-- IDENT answers with the part's constants, the reset cause and the reset flag, and clears the flag; RESTART is
answered DONE and sets the restart pending state alone; the head reply leaves its buffer when its last byte has left.
HTX carries the frame of the head reply (start byte, LEN, kind, tag, code, the bytes after it, CRC), and rests at mark when
no reply is being sent and while the part is held in reset, whose start cuts a reply being sent. The IDENT
reply shows the flag before it is cleared, by R182 over R181 (Log 15). -/
def Obligations.IdentRestartAndReplySent : Prop :=
  (∀ (s : State) (tag : Byte), s.ready →
    exec (.ident tag) s = .next
      { s.answered 0x81 tag .done
          [0x4B, 0x38, 0x02, 8, 96, 32, 16,
            (match s.resetCause with | .powerOn => 0 | .rst => 1 | .restart => 2), if s.resetFlag then 1 else 0] with
        resetFlag := false }) ∧
  (∀ (s : State) (tag : Byte), s.ready →
    ∃ t, exec (.restart tag) s = .next t ∧
      t = { s with
        link := { s.link with
          restartPending := true
          replies := s.link.replies ++ [{ kind := 0x92, tag := tag, code := .done, body := [] }] } }) ∧
  (∀ (s : State) (r : Reply) (rest : List Reply), s.held = false → s.link.replies = r :: rest →
    exec .replySent s = .next { s with link := { s.link with replies := rest } } ∧
    ∀ covered, covered = bytes16n (r.body.length + 3) ++ [r.kind, r.tag, r.code.byte] ++ r.body →
      s.htx = .reply ([0xC3] ++ covered ++ bytes16 (crcOf covered))) ∧
  (∀ s : State, s.held = true ∨ s.link.replies = [] → s.htx = .mark) ∧
  ∀ s t : State, exec .powerOnReset s = .next t ∨ exec .rstAssert s = .next t → t.htx = .mark

/-- STATUS gives the lane or the device as it stands, and changes nothing; a lane byte that is neither a lane nor 0xFF is
answered BAD_LANE. The states, the keylock and the sets take the byte values of the layouts, one bit a member, the live
states in condition order. -/
def Obligations.StatusReportsTheState : Prop :=
  (∀ (s : State) (tag lane : Byte) (l : LaneId), s.ready → lane.toNat = l.val →
    exec (.statusLane tag lane) s = .next
      (s.answered 0x82 tag .done
        ([s.lanes[l].power.state.byte,
            (match s.lanes[l].power.progress with | some m => byteOf m.val | none => 0xFF),
            s.lanes[l].drawer.state.byte, s.lanes[l].keys.keylock.byte, (if s.lanes[l].drawer.fault then 1 else 0),
            s.lanes[l].drawer.flags.setWidth 8,
            setByte [s.lanes[l].port.reasons.host, s.lanes[l].port.reasons.flow, s.lanes[l].port.reasons.drawer,
              s.lanes[l].port.reasons.check],
            byteOf s.lanes[l].queue.records.length, byteOf s.lanes[l].queue.held,
            setByte ([.scannerAbsent, .scannerHeld, .ghost, .rollover, .keylockFault, .drawerLong, .driverFault,
                .counterFull].map
              s.lanes[l].liveOf),
            byteOf s.lanes[l].keys.downList.length] ++
          (s.lanes[l].keys.downList.map fun p => byteOf p.val) ++
          List.replicate (6 - s.lanes[l].keys.downList.length) 0xFF))) ∧
  (∀ (s : State) (tag lane : Byte), s.ready → 8 ≤ lane.toNat → lane ≠ 0xFF →
    exec (.statusLane tag lane) s = .next (s.answered 0x82 tag .badLane [])) ∧
  (∀ (s : State) (tag : Byte), s.ready →
    exec (.statusDevice tag) s = .next
      (s.answered 0x82 tag .done
        (bytes32 s.timeBase ++
          [if s.lockdown then 1 else 0, if s.lkdLevel then 1 else 0, byteOf s.poolFree, byteOf s.alarms.length] ++
          bytes16n s.link.errors))) ∧
  (∀ (members : List Bool) (i : Nat), i < 8 → (setByte members).getLsbD i = members.getD i false) ∧
  [LaneState.off, .settling, .on, .tripped].map LaneState.byte = [0, 1, 2, 3] ∧
  [DrawerState.unsensed, .closed, .releasing, .awaitOpen, .opened, .openLong].map DrawerState.byte =
    [0, 1, 2, 3, 4, 5] ∧
  [Keylock.off, .operate, .manager, .training].map Keylock.byte = [0, 1, 2, 3]

/-! ### The rule table, the keymap and the settings -/

/-- RULE replaces the whole entry or is refused with BAD_FIELD and changes nothing; RULEQ reports an entry as held and
changes nothing. -/
def Obligations.RuleTableIsWrittenAndRead : Prop :=
  (∀ (s : State) (tag index : Byte) (i : RuleIdx) (f : RuleFields) (r : CodeRule), s.ready → index.toNat = i.val →
    f.store = some r →
      exec (.rule tag index f) s = .next (State.answered { s with rules := s.rules.set i r } 0x86 tag .done [])) ∧
  (∀ (s : State) (tag index : Byte) (f : RuleFields), s.ready → 16 ≤ index.toNat ∨ f.store = none →
    exec (.rule tag index f) s = .next (s.answered 0x86 tag .badField [])) ∧
  (∀ (s : State) (tag index : Byte) (i : RuleIdx), s.ready → index.toNat = i.val →
    exec (.ruleQ tag index) s = .next (s.answered 0x87 tag .done s.rules[i].bytes)) ∧
  ∀ (s : State) (tag index : Byte), s.ready → 16 ≤ index.toNat →
    exec (.ruleQ tag index) s = .next (s.answered 0x87 tag .badField [])

/-- The fields of a RULE are stored exactly when none of the refusals of R64 holds; the entry stored is then valid, and
read back it gives the bytes sent, with 0x00 beyond the pattern and for the start, count and scale of an absent value. -/
def Obligations.RuleAcceptedExactlyWhenValid : Prop :=
  ∀ f : RuleFields,
    (f.store.isSome = true ↔ f.Acceptable) ∧
    ∀ r, f.store = some r →
      r.Valid ∧
      r.bytes =
        [f.active, f.cls, f.minLen, f.maxLen, f.patLen] ++
          (List.ofFn fun i : Fin 8 => if i.val < f.patLen.toNat then f.pattern[i] else 0#8) ++
          [f.check, f.valuePresent] ++
          (if f.valuePresent = 1#8 then [f.start, f.count, f.scale] else [0#8, 0#8, 0#8]) ++ [f.action, f.tag]

/-- KEYMAP: LANE_ACTIVE in SETTLING and ON; in OFF and TRIPPED it gives the attribute to every named position, or is
refused with BAD_FIELD in the five cases of R20 and changes nothing. -/
def Obligations.KeymapGivesOneAttribute : Prop :=
  ∀ (s : State) (tag lane first count attr : Byte) (l : LaneId), s.ready → lane.toNat = l.val →
    (s.lanes[l].powered = true →
      exec (.keymap tag lane first count attr) s = .next (s.answered 0x85 tag .laneActive [])) ∧
    (s.lanes[l].powered = false →
      (∀ a, KeyAttr.ofByte attr = some a → first.toNat ≤ 127 → 1 ≤ count.toNat → first.toNat + count.toNat ≤ 128 →
        (3 ≤ attr.toNat → count.toNat = 1 ∧ ∀ p : KeyPos, p.val ≠ first.toNat → s.lanes[l].keymap[p] ≠ a) →
        ∃ t, exec (.keymap tag lane first count attr) s = .next t ∧
          (∃ m, t = (s.withLaneAs l { s.lanes[l] with keymap := m }).answered 0x85 tag .done []) ∧
          ∀ p : KeyPos, t.lanes[l].keymap[p] =
            if first.toNat ≤ p.val ∧ p.val < first.toNat + count.toNat then a else s.lanes[l].keymap[p]) ∧
      (7 ≤ attr.toNat ∨ 127 < first.toNat ∨ count.toNat = 0 ∨ 128 < first.toNat + count.toNat ∨
          (3 ≤ attr.toNat ∧ 2 ≤ count.toNat) ∨
          (3 ≤ attr.toNat ∧
            ∃ p : KeyPos, p.val ≠ first.toNat ∧ some s.lanes[l].keymap[p] = KeyAttr.ofByte attr) →
        exec (.keymap tag lane first count attr) s = .next (s.answered 0x85 tag .badField [])))

/-- LANECFG: LANE_ACTIVE in SETTLING and ON; in OFF and TRIPPED a write stores every field clamped to its range and
answers CLAMPED exactly when one was not in it, a release key byte outside its list refuses it whole, and a read changes
nothing; both answer with the settings as stored, in the layout of the LANECFG payload. -/
def Obligations.LaneCfgStoresTheStaticSettings : Prop :=
  ∀ (s : State) (tag lane : Byte) (f : LaneCfgFields) (l : LaneId), s.ready → lane.toNat = l.val →
    (s.lanes[l].powered = true →
      exec (.laneCfgWrite tag lane f) s = .next (s.answered 0x83 tag .laneActive []) ∧
        exec (.laneCfgRead tag lane) s = .next (s.answered 0x83 tag .laneActive [])) ∧
    (s.lanes[l].powered = false →
      exec (.laneCfgRead tag lane) s = .next (s.answered 0x83 tag .done s.lanes[l].cfg.bytes) ∧
      (128 ≤ f.releaseKey.toNat → f.releaseKey ≠ 0xFF →
        exec (.laneCfgWrite tag lane f) s = .next (s.answered 0x83 tag .badField [])) ∧
      (f.releaseKey.toNat < 128 ∨ f.releaseKey = 0xFF →
        ∃ c : LaneCfg,
          exec (.laneCfgWrite tag lane f) s = .next
            ((s.withLaneAs l { s.lanes[l] with cfg := c }).answered 0x83 tag
              (if c.bytes =
                  [f.settle, f.rows, f.cols, f.period, f.debounce] ++ bytes16 f.typDelay ++ bytes16 f.typPeriod ++
                    [f.releaseKey] ++ bytes32 f.rate ++ [f.gap, f.pulse] ++ bytes16 f.confirm
                then .done else .clamped)
              c.bytes) ∧
          c.settle.val = clamp 0 7 f.settle.toNat ∧ c.rows = clamp 1 8 f.rows.toNat ∧ c.cols = clamp 1 16 f.cols.toNat ∧
          c.period = clamp 2 16 f.period.toNat ∧ c.debounce = clamp 1 8 f.debounce.toNat ∧
          c.typDelay = clamp 250 1000 f.typDelay.toNat ∧ c.typPeriod = clamp 33 500 f.typPeriod.toNat ∧
          c.releaseKey.map Fin.val = (if f.releaseKey = 0xFF then none else some f.releaseKey.toNat) ∧
          c.rate = nearestRate f.rate.toNat ∧ c.gap = clamp 5 50 f.gap.toNat ∧ c.pulse = clamp 20 200 f.pulse.toNat ∧
          c.confirm = clamp 100 2000 f.confirm.toNat ∧
          c.bytes =
            [byteOf c.settle.val, byteOf c.rows, byteOf c.cols, byteOf c.period, byteOf c.debounce] ++
              bytes16n c.typDelay ++ bytes16n c.typPeriod ++
              [match c.releaseKey with | some k => byteOf k.val | none => 0xFF] ++ bytes32n c.rate ++
              [byteOf c.gap, byteOf c.pulse] ++ bytes16n c.confirm))

/-- What a clamp stores lies in the range and no value of the range is nearer; the scanner rate is the nearest of the
five and the lower of two equally near; the duplicate window is the nearest step of 10 up to 2550, the lower when exactly
halfway (R43, R75, R180). -/
def Obligations.ClampedFieldsTakeTheNearestValue : Prop :=
  (∀ lo hi n m : Nat, lo ≤ m → m ≤ hi →
    lo ≤ clamp lo hi n ∧ clamp lo hi n ≤ hi ∧ ((clamp lo hi n : Int) - n).natAbs ≤ ((m : Int) - n).natAbs) ∧
  (∀ n r : Nat, r ∈ [9600, 19200, 38400, 57600, 115200] →
    nearestRate n ∈ [9600, 19200, 38400, 57600, 115200] ∧
    ((nearestRate n : Int) - n).natAbs ≤ ((r : Int) - n).natAbs ∧
    (((nearestRate n : Int) - n).natAbs = ((r : Int) - n).natAbs → nearestRate n ≤ r)) ∧
  ∀ n k : Nat, k ≤ 255 →
    nearestWindow n ≤ 2550 ∧ nearestWindow n % 10 = 0 ∧
    ((nearestWindow n : Int) - n).natAbs ≤ ((10 * k : Int) - n).natAbs ∧
    (((nearestWindow n : Int) - n).natAbs = ((10 * k : Int) - n).natAbs → nearestWindow n ≤ 10 * k)

/-- LANESET: a byte outside a list refuses the write whole. Otherwise every field is stored, each number clamped to its
range (the low-water mark against the high-water mark just stored), CLAMPED being answered exactly when one was not in it,
and the write acts on the lane: W = 0 clears the duplicate filter, a changed inhibit-while-open under an open drawer moves
DRAWER with the scanner command that follows, a changed counter mode starts (on an ON lane) or stops the report timer, and
FLOW is evaluated against the stored quota and marks: a change of it moves the scanner command queue and, on an ON lane, the
live state of SCANNER_HELD, with the CONDITION record that reports it. A read evaluates FLOW alone. Both answer with the
settings as stored, in the layout of the LANESET payload; nothing else of the lane changes. -/
def Obligations.LaneSetStoresAndActs : Prop :=
  ∀ (s : State) (tag lane : Byte) (f : LaneSetFields) (l : LaneId) (listed : Prop), s.ready → lane.toNat = l.val →
    (listed ↔
      f.confirmTones.toNat ≤ 1 ∧ f.inhibitOpen.toNat ≤ 1 ∧ f.strict.toNat ≤ 1 ∧ f.hostMask.toNat < 128 ∧
        f.keyMask.toNat < 128 ∧ f.consume.toNat < 16 ∧ (∀ i : Fin 8, f.modes[i].toNat ≤ 2) ∧ f.counterMode.toNat ≤ 1) →
    (¬listed → exec (.laneSetWrite tag lane f) s = .next (s.answered 0x84 tag .badField [])) ∧
    (listed →
      ∃ (t : State) (c : LaneSet) (filter : DupFilter) (timer : Option Time) (reasons : Reasons),
        exec (.laneSetWrite tag lane f) s = .next t ∧
        State.QuietFrame
          (s.answered 0x84 tag
            (if c.bytes =
                [f.confirmTones, f.inhibitOpen, f.strict] ++ bytes32 f.valueLimit ++ bytes16 f.dupWindow ++
                  [f.quota, f.high, f.low] ++ bytes16 f.openLong ++ [f.hostMask, f.keyMask, f.consume] ++
                  f.modes.toList ++ [f.counterMode, f.interval, f.priority]
              then .done else .clamped)
            c.bytes) t l ∧
        c.confirmTones = decide (f.confirmTones = 1) ∧ c.inhibitOpen = decide (f.inhibitOpen = 1) ∧
        c.strict = decide (f.strict = 1) ∧ c.valueLimit = clamp 0 999999 f.valueLimit.toNat ∧
        c.dupWindow = nearestWindow f.dupWindow.toNat ∧ c.quota = clamp 2 32 f.quota.toNat ∧
        c.high = clamp 8 28 f.high.toNat ∧ c.low = clamp 0 (c.high - 4) f.low.toNat ∧
        c.openLong = clamp 5 600 f.openLong.toNat ∧ c.hostMask.toNat = f.hostMask.toNat ∧
        c.keyMask.toNat = f.keyMask.toNat ∧ c.consume.toNat = f.consume.toNat ∧
        (∀ i : Fin 8, c.modes[i] = if f.modes[i] = 0 then .off else if f.modes[i] = 1 then .rise else .both) ∧
        c.counterMode = (if f.counterMode = 1 then .auto else .manual) ∧ c.interval = clamp 1 255 f.interval.toNat ∧
        c.priority.val = clamp 0 3 f.priority.toNat ∧
        c.bytes =
          [if c.confirmTones then 1 else 0, if c.inhibitOpen then 1 else 0, if c.strict then 1 else 0] ++
            bytes32n c.valueLimit ++ bytes16n c.dupWindow ++ [byteOf c.quota, byteOf c.high, byteOf c.low] ++
            bytes16n c.openLong ++ [c.hostMask.setWidth 8, c.keyMask.setWidth 8, c.consume.setWidth 8] ++
            (c.modes.toList.map fun m => match m with | .off => 0#8 | .rise => 1#8 | .both => 2#8) ++
            [if c.counterMode = .auto then 1 else 0, byteOf c.interval, byteOf c.priority.val] ∧
        (filter = if c.dupWindow = 0 then DupFilter.cleared else s.lanes[l].filter) ∧
        (timer =
          if c.counterMode = s.lanes[l].set.counterMode then s.lanes[l].reportTimer
          else if c.counterMode = .manual then none
          else if s.lanes[l].on then some (after s.timeBase (c.interval * 1000)) else s.lanes[l].reportTimer) ∧
        (reasons =
          if c.inhibitOpen ≠ s.lanes[l].set.inhibitOpen ∧
              (s.lanes[l].drawer.state = .opened ∨ s.lanes[l].drawer.state = .openLong)
          then { s.lanes[l].port.reasons with drawer := c.inhibitOpen } else s.lanes[l].port.reasons) ∧
        (∃ d : Lane,
          s.lanes[l].Redirected d reasons ∧
          Lane.FlowEvaluated { d with set := c, filter := filter, reportTimer := timer } t.lanes[l] l s.timeBase) ∧
        (s.attn = s.waiting → t.attn = t.waiting) ∧
        (t.lanes[l].port.reasons.flow =
          if c.high ≤ s.lanes[l].count ∨ c.quota ≤ s.lanes[l].queue.held then true
          else if s.lanes[l].count ≤ c.low ∧ s.lanes[l].queue.held + 2 ≤ c.quota then false
          else s.lanes[l].port.reasons.flow)) ∧
    (s.lanes[l].set.InRange →
      ∃ t, exec (.laneSetRead tag lane) s = .next t ∧
        State.QuietFrame (s.answered 0x84 tag .done s.lanes[l].set.bytes) t l ∧
        s.lanes[l].FlowEvaluated t.lanes[l] l s.timeBase ∧ (s.attn = s.waiting → t.attn = t.waiting) ∧
        (t.lanes[l].port.reasons.flow =
          if s.lanes[l].set.high ≤ s.lanes[l].count ∨ s.lanes[l].set.quota ≤ s.lanes[l].queue.held then true
          else if s.lanes[l].count ≤ s.lanes[l].set.low ∧ s.lanes[l].queue.held + 2 ≤ s.lanes[l].set.quota then false
          else s.lanes[l].port.reasons.flow))

/-! ### Lane power -/

/-- POWER on: DONE and no change in SETTLING and ON, FAULTED and no change in TRIPPED. In OFF the lane enters SETTLING
with PENn asserted and its LANE record offered; a PFLn found asserted trips it within the request, with both records and
the alarm, and the reply is DONE. POWER off: DONE and no change in OFF; BUSY and no change while the drawer of an ON
lane is RELEASING; otherwise the lane leaves for OFF, its LANE record carrying the progress of SETTLING and ON, and none
from TRIPPED. A check that the leaving ends offers its CHECK record first, while it runs: that the lane then still counts as
ON, so that a FLOW the record adds puts a SCANNER_HELD record ahead of the LANE record, is the model's reading (Log 9).
The values of an idle check's sequence register and of a break detector outside ON (no level seen, its timer stopped) are
the model's choice (Log 6). -/
def Obligations.PowerFollowsTheLaneState : Prop :=
  (∀ (s : State) (tag lane : Byte) (l : LaneId), s.ready → lane.toNat = l.val →
    (s.lanes[l].power.state = .settling ∨ s.lanes[l].power.state = .on →
      exec (.powerOn tag lane) s = .next (s.answered 0x88 tag .done [])) ∧
    (s.lanes[l].power.state = .tripped → exec (.powerOn tag lane) s = .next (s.answered 0x88 tag .faulted [])) ∧
    (s.lanes[l].power.state = .off → s.lanes[l].pins.pfl = false →
      ∃ t, exec (.powerOn tag lane) s = .next t ∧ State.QuietFrame (s.answered 0x88 tag .done []) t l ∧
        s.OfferedB t l (.lane .settling none) ∧
        Lane.Offered
          { s.lanes[l] with
            power :=
              { state := .settling, progress := none, start := some s.timeBase, timer := some (s.timeBase + 5)
                pen := true } }
          t.lanes[l] l s.timeBase (.lane .settling none)) ∧
    (s.lanes[l].power.state = .off → s.lanes[l].pins.pfl = true → s.lanes[l].checking = false →
      ∃ t, exec (.powerOn tag lane) s = .next t ∧ State.LaneFrame (s.answered 0x88 tag .done []) t l ∧
        t.poolFree = s.poolFree ∧ t.alarms = raiseAlarm s.timeBase .powerTrip (some l) s.alarms ∧ t.attn = true ∧
        t.lanes[l].power =
          { state := .tripped, progress := none, start := some s.timeBase, timer := none, pen := false } ∧
        (∃ m : Lane,
          Lane.Offered
            { s.lanes[l] with
              power :=
                { state := .settling, progress := none, start := some s.timeBase, timer := some (s.timeBase + 5)
                  pen := true } }
            m l s.timeBase (.lane .settling none) ∧
          (m.departed .tripped).Offered t.lanes[l] l s.timeBase (.lane .tripped none)) ∧
        t.lanes[l].AtLocalReset ∧ s.lanes[l].KeptByReset t.lanes[l] ∧
        t.lanes[l].pins = s.lanes[l].pins ∧ t.lanes[l].checker.freeIdx = s.lanes[l].checker.freeIdx ∧
        (s.lanes[l].count < 31 →
          t.lanes[l].queue.records =
            s.lanes[l].queue.records ++
              [s.recordOf l (.lane .settling none),
                { s.recordOf l (.lane .tripped none) with seq := s.lanes[l].queue.seq + 1, lost := 0 }]))) ∧
  (∀ (s : State) (tag lane : Byte) (l : LaneId), s.ready → lane.toNat = l.val →
    (s.lanes[l].power.state = .off → exec (.powerOff tag lane) s = .next (s.answered 0x88 tag .done [])) ∧
    (s.lanes[l].power.state = .on → s.lanes[l].drawer.state = .releasing →
      exec (.powerOff tag lane) s = .next (s.answered 0x88 tag .busy [])) ∧
    (s.lanes[l].power.state = .settling ∨
        (s.lanes[l].power.state = .on ∧ s.lanes[l].drawer.state ≠ .releasing) →
      ∃ t, exec (.powerOff tag lane) s = .next t ∧ State.QuietFrame (s.answered 0x88 tag .done []) t l ∧
        s.LaneLeft t l .off s.lanes[l].power.progress) ∧
    (s.lanes[l].power.state = .tripped →
      ∃ t, exec (.powerOff tag lane) s = .next t ∧ State.QuietFrame (s.answered 0x88 tag .done []) t l ∧
        s.LaneLeft t l .off none))

/-- An assertion of PFLn trips a SETTLING or ON lane, with the POWER_TRIP alarm and the records of the leaving, and only
changes the level seen of an OFF or TRIPPED one; a deassertion only changes the level. A check that the trip ends offers
its CHECK record first, while it runs: that the lane then still counts as ON, so that a FLOW the record adds puts a
SCANNER_HELD record ahead of the LANE record, is the model's reading (Log 9).
That an assertion counts whatever the level was is the model's reading too (Log 20); the values of an idle check's sequence
register and of a break detector outside ON (no level seen, its timer stopped) are its choice (Log 6). -/
def Obligations.PowerFaultTripsAPoweredLane : Prop :=
  ∀ (s : State) (l : LaneId), s.held = false →
    (s.lanes[l].powered = false →
      exec (.pflAssert l) s = .next
        (s.withLaneAs l { s.lanes[l] with pins := { s.lanes[l].pins with pfl := true } })) ∧
    (s.lanes[l].powered = true →
      ∃ p t, p = { (s.withLaneAs l { s.lanes[l] with pins := { s.lanes[l].pins with pfl := true } }) with attn := true } ∧
        exec (.pflAssert l) s = .next t ∧ p.LaneFrame t l ∧ p.LaneLeft t l .tripped s.lanes[l].power.progress ∧
        t.poolFree = s.poolFree ∧ t.alarms = raiseAlarm s.timeBase .powerTrip (some l) s.alarms ∧ t.attn = true) ∧
    exec (.pflDeassert l) s = .next
      (s.withLaneAs l { s.lanes[l] with pins := { s.lanes[l].pins with pfl := false } })

/-- The expiry of the settle timer passes exactly one milestone: the progress goes up by one and the timer is set to the
next point of the table, or stopped after milestone 7. Nothing else changes unless a SETTLING lane reaches its
requirement. A SETTLING lane whose expiry reaches its settle requirement enters ON: the LANE ON record is offered first,
and at 32 records lost; then the key matrix, the scanner port and the drawer start, the command of the disable-reason set
being the head of the scanner command queue and the line state. The conditions are evaluated from their owners:
SCANNER_HELD with the FLOW that stands, then COUNTER_FULL, each offering the CONDITION record its report mode covers, and
every other condition is false; the report timer starts in AUTO mode. That FLOW of the LANE ON record is evaluated before
the port and the monitor start is the model's reading (Log 10). The values of registers of a lane at local reset to which
the spec gives none are its choice (Log 6). -/
def Obligations.SettleExpiryPassesAMilestoneOrEntersOn : Prop :=
  (∀ (s : State) (l : LaneId) (start : Time) (m : Milestone), s.held = false → s.lanes[l].powered = true →
    expired s.timeBase s.lanes[l].power.timer = true → s.lanes[l].power.start = some start →
    m.val = (match s.lanes[l].power.progress with | none => 0 | some k => k.val + 1) →
    (s.lanes[l].power.state = .settling → m ≠ s.lanes[l].cfg.settle) →
      exec (.settleExpiry l) s = .next
        (s.withLaneAs l
          { s.lanes[l] with
            power :=
              { s.lanes[l].power with
                progress := some m
                timer :=
                  match m.val with
                  | 0 => some (start + 10)
                  | 1 => some (start + 20)
                  | 2 => some (start + 50)
                  | 3 => some (start + 100)
                  | 4 => some (start + 200)
                  | 5 => some (start + 500)
                  | 6 => some (start + 1000)
                  | _ => none } })) ∧
  (∀ (s : State) (l : LaneId) (start : Time), s.held = false → s.lanes[l].power.state = .settling →
    expired s.timeBase s.lanes[l].power.timer = true → s.lanes[l].power.start = some start →
    s.lanes[l].cfg.settle.val = (match s.lanes[l].power.progress with | none => 0 | some k => k.val + 1) →
    s.lanes[l].AtLocalReset → s.lanes[l].set.InRange →
      ∃ (t : State) (started held evaluated : Lane) (flow : Bool), exec (.settleExpiry l) s = .next t ∧
        s.QuietFrame t l ∧ (t.attn = (s.attn || decide (s.lanes[l].count < 32))) ∧
        (flow =
          if 32 ≤ s.lanes[l].count then s.lanes[l].port.reasons.flow
          else if s.lanes[l].set.high ≤ s.lanes[l].count + 1 ∨ s.lanes[l].set.quota ≤ s.lanes[l].queue.held then true
          else if s.lanes[l].count + 1 ≤ s.lanes[l].set.low ∧ s.lanes[l].queue.held + 2 ≤ s.lanes[l].set.quota then false
          else s.lanes[l].port.reasons.flow) ∧
        started =
          { s.lanes[l] with
            queue :=
              if s.lanes[l].count < 32 then
                (s.lanes[l].taking l s.timeBase (.lane .on (some s.lanes[l].cfg.settle))).queue
              else s.lanes[l].losing.queue
            power :=
              { s.lanes[l].power with
                state := .on
                progress := some s.lanes[l].cfg.settle
                timer := (nextMilestone (some s.lanes[l].cfg.settle)).map (milestonePoint start) }
            keys := { KeyScanner.reset with nextSample := some (after s.timeBase s.lanes[l].cfg.period) }
            port :=
              { rx := Receiver.reset
                brk :=
                  { absent := false
                    held := some { level := s.lanes[l].pins.srx, since := s.timeBase }
                    timer := some (s.timeBase + 100) }
                cmds := [.enable (if flow then .disabled else .enabled)]
                lineState := some (if flow then .disabled else .enabled)
                reasons := { host := false, flow := flow, drawer := false, check := false } }
            drawer :=
              { s.lanes[l].drawer with
                stability := some { point := s.timeBase + 20, level := s.lanes[l].pins.dsn } } } ∧
        started.HandedOver held l s.timeBase .scannerHeld flow ∧
        held.HandedOver evaluated l s.timeBase .counterFull s.lanes[l].counters.full ∧
        t.lanes[l] =
          { evaluated with
            reportTimer :=
              if s.lanes[l].set.counterMode = .auto then some (after s.timeBase (s.lanes[l].set.interval * 1000))
              else none } ∧
        ∀ c : Condition, c ≠ .scannerHeld → c ≠ .counterFull → t.lanes[l].liveOf c = false)

/-! ### The input lines -/

/-- A change of DSNn restarts the stability timer of an ON lane for the new level; a change of SRXn restarts the break
timer of an ON lane; a break character in a frame holds the frame pending; a line found at the level it had changes
nothing. Nothing else of the part changes. A character of the two byte rows whose data bits and stop bit are all at space
is a break character (R43; that these rows can carry one: Log 25).
That a row which finds its level is no change is the model's reading (Log 20). -/
def Obligations.LineChangesRestartTheirTimers : Prop :=
  ∀ (s : State) (l : LaneId), s.held = false →
    (∀ level, s.lanes[l].pins.dsn = level → exec (.dsnChange l level) s = .next s) ∧
    (∀ level, s.lanes[l].pins.dsn ≠ level →
      exec (.dsnChange l level) s = .next
        (s.withLaneAs l
          { s.lanes[l] with
            pins := { s.lanes[l].pins with dsn := level }
            drawer :=
              { s.lanes[l].drawer with
                stability :=
                  if s.lanes[l].on then some { point := s.timeBase + 20, level := level }
                  else s.lanes[l].drawer.stability } })) ∧
    (∀ level, s.lanes[l].pins.srx = level → exec (.srxLevelChange l level) s = .next s) ∧
    (∀ level, s.lanes[l].pins.srx ≠ level → s.lanes[l].on = false ∨ level = .space ∨
        s.lanes[l].port.rx.breakPending = false →
      exec (.srxLevelChange l level) s = .next
        (s.withLaneAs l
          { s.lanes[l] with
            pins := { s.lanes[l].pins with srx := level }
            port :=
              { s.lanes[l].port with
                brk :=
                  if s.lanes[l].on then
                    { s.lanes[l].port.brk with
                      held := some { level := level, since := s.timeBase }
                      timer := some (s.timeBase + 100) }
                  else s.lanes[l].port.brk } })) ∧
    (exec (.scannerByteArrival l 0x00 true) s = exec (.breakCharacter l) s ∧
      exec (.checkByteArrival l 0x00 true) s = exec (.breakCharacter l) s) ∧
    exec (.breakCharacter l) s = .next
      (s.withLaneAs l
        { s.lanes[l] with
          port :=
            { s.lanes[l].port with
              rx :=
                { s.lanes[l].port.rx with
                  breakPending :=
                    s.lanes[l].port.rx.breakPending ||
                      (s.lanes[l].on && !s.lanes[l].checking && decide (s.lanes[l].port.rx.state ≠ .idle)) } } })

/-- An expiry row whose timer is stopped, or whose point has not been reached, changes nothing; nor does a sample whose
time has not come. On a lane that is not ON these thirteen rows change nothing: SAMPLE_ARRIVAL, TYPEMATIC_EXPIRY,
SCANNER_BYTE_ARRIVAL, FRAME_COMPLETION, SCANNER_GAP_EXPIRY, BREAK_CHARACTER, BREAK_TIMER_EXPIRY, COMMAND_SENT,
SENSE_STABILITY_EXPIRY, REPORT_TIMER_EXPIRY, CHECK_BYTE_SENT, CHECK_BYTE_ARRIVAL and CHECK_TIMER_EXPIRY. Nothing is said here
of the other rows on such a lane (a settle expiry acts in SETTLING). That an expiry row waits for its point is the model's
choice (Log 2); that the expiry of a stopped timer, and outside ON an expiry or the end of a transmission, leave the state
as it was is deduced (Log 8). -/
def Obligations.UnheardEventsChangeNothing : Prop :=
  ∀ (s : State) (l : LaneId), s.held = false →
    (expired s.timeBase s.lanes[l].power.timer = false → exec (.settleExpiry l) s = .next s) ∧
    (expired s.timeBase (s.lanes[l].keys.typematic.map Typematic.point) = false →
      exec (.typematicExpiry l) s = .next s) ∧
    (expired s.timeBase s.lanes[l].port.rx.gap = false → exec (.scannerGapExpiry l) s = .next s) ∧
    (expired s.timeBase s.lanes[l].port.brk.timer = false → exec (.breakTimerExpiry l) s = .next s) ∧
    (expired s.timeBase (s.lanes[l].drawer.stability.map Stability.point) = false →
      exec (.senseStabilityExpiry l) s = .next s) ∧
    (expired s.timeBase s.lanes[l].drawer.pulse = false → exec (.pulseExpiry l) s = .next s) ∧
    (expired s.timeBase s.lanes[l].drawer.confirm = false → exec (.confirmExpiry l) s = .next s) ∧
    (expired s.timeBase s.lanes[l].drawer.openLong = false → exec (.openLongExpiry l) s = .next s) ∧
    (expired s.timeBase s.lanes[l].reportTimer = false → exec (.reportTimerExpiry l) s = .next s) ∧
    (expired s.timeBase s.lanes[l].filter.window = false → exec (.duplicateWindowExpiry l) s = .next s) ∧
    (expired s.timeBase s.lanes[l].checker.timer = false → exec (.checkTimerExpiry l) s = .next s) ∧
    (expired s.timeBase s.link.rx.gap = false → exec .hostGapExpiry s = .next s) ∧
    (expired s.timeBase s.lanes[l].keys.nextSample = false → ∀ raw, exec (.sampleArrival l raw) s = .next s) ∧
    (s.lanes[l].on = false → ∀ raw b e,
      exec (.sampleArrival l raw) s = .next s ∧ exec (.typematicExpiry l) s = .next s ∧
      exec (.scannerByteArrival l b e) s = .next s ∧ exec (.frameCompletion l) s = .next s ∧
      exec (.scannerGapExpiry l) s = .next s ∧ exec (.breakCharacter l) s = .next s ∧
      exec (.breakTimerExpiry l) s = .next s ∧ exec (.commandSent l) s = .next s ∧
      exec (.senseStabilityExpiry l) s = .next s ∧ exec (.reportTimerExpiry l) s = .next s ∧
      exec (.checkByteSent l) s = .next s ∧ exec (.checkByteArrival l b e) s = .next s ∧
      exec (.checkTimerExpiry l) s = .next s)

/-! ### The service order -/

/-- FETCH of a named lane removes up to the maximum, clamped to 1 to 8, from the head of that lane's queue, returns their
code slots, evaluates FLOW when any record left, and only then touches the lane: a change of FLOW moves the scanner command
queue and, on an ON lane, the live state of SCANNER_HELD, with the CONDITION record that reports it behind the records
left. It answers with the records in order, each behind its length, with 0xFF
as the source when there is none, and with the number of records left in the part. No pointer moves, and ATTN follows the
records that wait. The bytes of a record are its header (kind, lane, sequence, time, lost before) and the body of its kind,
in the layouts and values of R190. -/
def Obligations.FetchOfALaneRemovesItsOldestRecords : Prop :=
  (∀ (s : State) (tag lane maximum : Byte) (l : LaneId), s.ready → lane.toNat = l.val → s.lanes[l].set.InRange →
    ∃ t taken rest left,
      exec (.fetchLane tag lane maximum) s = .next t ∧
      taken = s.lanes[l].queue.records.take (clamp 1 8 maximum.toNat) ∧
      s.lanes[l].queue.records = taken ++ rest ∧
      left = t.alarms.length + (t.lanes.toList.map fun d => d.queue.records.length).sum ∧
      State.LaneFrame
        (s.answered 0x89 tag (if 1 ≤ maximum.toNat ∧ maximum.toNat ≤ 8 then .done else .clamped)
          ([if taken = [] then 0xFF else byteOf l.val, byteOf taken.length] ++ bytes16n left ++
            (taken.map fun r => byteOf r.bytes.length :: r.bytes).flatten)) t l ∧
      t.alarms = s.alarms ∧ t.poolFree = s.poolFree + slotCount taken ∧
      (taken = [] → t.lanes[l] = s.lanes[l]) ∧
      (taken ≠ [] →
        Lane.FlowEvaluated
          { s.lanes[l] with
            queue :=
              { s.lanes[l].queue with records := rest, held := s.lanes[l].queue.held - slotCount taken } }
          t.lanes[l] l s.timeBase) ∧
      t.lanes[l].queue.held = s.lanes[l].queue.held - slotCount taken ∧
      (s.attn = s.waiting → t.attn = t.waiting) ∧
      t.lanes[l].port.reasons.flow =
        (if taken = [] then s.lanes[l].port.reasons.flow
        else if s.lanes[l].set.high ≤ rest.length ∨
            s.lanes[l].set.quota ≤ s.lanes[l].queue.held - slotCount taken then true
        else if rest.length ≤ s.lanes[l].set.low ∧
            s.lanes[l].queue.held - slotCount taken + 2 ≤ s.lanes[l].set.quota then false
        else s.lanes[l].port.reasons.flow)) ∧
  (∀ (r : LaneRecord) (kind : Byte) (body : List Byte),
    (kind, body) =
      (match r.body with
      | .keyDown p k => (1, [byteOf p.val, k.byte])
      | .keyRepeat p => (2, [byteOf p.val])
      | .scan code rule tag checked training value =>
        (3,
          [match code.cls with | .numeric => 0x4E | .alpha => 0x41, byteOf code.chars.length,
              match rule with | some i => byteOf i.val | none => 0xFF, byteOf tag.val,
              setByte [checked, training, value.isSome]] ++
            code.chars ++
            match value with
            | some x => bytes32n x.value ++ [byteOf x.scale] ++ x.lookup
            | none => [])
      | .reject code reason rule =>
        (4,
          [match code.cls with | .numeric => 0x4E | .alpha => 0x41, byteOf code.chars.length, reason.byte,
              match rule with | some i => byteOf i.val | none => 0xFF] ++
            code.chars)
      | .keyUp p => (5, [byteOf p.val])
      | .keylock k => (6, [k.byte])
      | .drawer event state source refusal duration =>
        (7,
          [event.byte, state.byte, setByte [source.isSome, refusal.isSome, duration.isSome],
              match source with | some .key => 1 | _ => 0, match refusal with | some (code, _) => code.byte | none => 0,
              match refusal with | some (_, failing) => failing.setWidth 8 | none => 0] ++
            bytes32 (match duration with | some x => x | none => 0))
      | .lane state progress => (8, [state.byte, match progress with | some m => byteOf m.val | none => 0xFF])
      | .condition c live =>
        (9,
          [match c with
              | .scannerAbsent => 0 | .scannerHeld => 1 | .ghost => 2 | .rollover => 3 | .keylockFault => 4
              | .drawerLong => 5 | .driverFault => 6 | .counterFull => 7,
            if live then 1 else 0])
      | .counts c interval =>
        (10,
          bytes16n c.good ++ bytes16n c.checkFail ++ bytes16n c.rejected ++ bytes16n c.duplicate ++
            bytes16n c.overrun ++ bytes16n c.frameErr ++ [byteOf interval])
      | .check sent matched mismatches lockLosses locked cause =>
        (11,
          bytes32 sent ++ bytes32 matched ++ bytes32 mismatches ++ bytes16n lockLosses ++
            [if locked then 1 else 0, cause.byte])) →
    r.bytes = [kind, byteOf r.lane.val] ++ bytes16 r.seq ++ bytes32 r.time ++ [byteOf r.lost] ++ body) ∧
  [DrawerEvent.initial, .granted, .refused, .opened, .notOpened, .openLong, .closed, .forced].map DrawerEvent.byte =
    [0, 1, 2, 3, 4, 5, 6, 7] ∧
  [RejectReason.noRule, .rule, .check, .valueLimit].map RejectReason.byte = [0, 1, 2, 3] ∧
  [EndCause.time, .host, .lane].map EndCause.byte = [0, 1, 2]

/-- FETCH ANY removes from the alarm queue while it holds a record. Otherwise it does what a FETCH of the lane the arbiter
chooses does, the pointer of that lane's group moving to the lane, and with no candidate it answers with no record. The
bytes of an alarm are its kind, its lane (0xFF for the device), its first and last times and its repeats. -/
def Obligations.FetchAnyServesAlarmsThenTheChosenLane : Prop :=
  (∀ (s : State) (tag maximum : Byte), s.ready →
    (s.alarms ≠ [] →
      ∃ t taken rest left,
        exec (.fetchAny tag maximum) s = .next t ∧ taken = s.alarms.take (clamp 1 8 maximum.toNat) ∧
        s.alarms = taken ++ rest ∧ left = rest.length + (s.lanes.toList.map fun d => d.queue.records.length).sum ∧
        t = State.answered { s with alarms := rest, attn := s.attn && t.waiting } 0x89 tag
          (if 1 ≤ maximum.toNat ∧ maximum.toNat ≤ 8 then .done else .clamped)
          ([0xFE, byteOf taken.length] ++ bytes16n left ++
            (taken.map fun a => byteOf a.bytes.length :: a.bytes).flatten)) ∧
    (s.alarms = [] → (∀ l : LaneId, s.lanes[l].queue.records = []) →
      exec (.fetchAny tag maximum) s = .next
        (s.answered 0x89 tag (if 1 ≤ maximum.toNat ∧ maximum.toNat ≤ 8 then .done else .clamped) [0xFF, 0, 0, 0])) ∧
    (∀ (g : Fin 5) (l : LaneId), s.alarms = [] → s.arbiterChoice = some (g, l) →
      exec (.fetchAny tag maximum) s =
        exec (.fetchLane tag (byteOf l.val) maximum) { s with pointers := s.pointers.set g l })) ∧
  ∀ a : Alarm,
    a.bytes =
      [match a.kind with | .forcedOpen => 1#8 | .driverFault => 2#8 | .powerTrip => 3#8 | .lockdown => 4#8,
          match a.lane with | some l => byteOf l.val | none => 0xFF] ++
        bytes32 a.first ++ bytes32 a.last ++ [byteOf a.repeats]

/-- The arbiter chooses among the lanes whose queue holds a record: the pressed lanes first, then the priority classes
from 3 down to 0; within the group of first rank, the first lane after the group's pointer, counting upward and wrapping
from 7 to 0, the pointer's own lane last. -/
def Obligations.ArbiterRanksGroupsAndRotates : Prop :=
  (∀ s : State, s.arbiterChoice = none ↔ ∀ l : LaneId, s.lanes[l].queue.records = []) ∧
  (∀ d : Lane,
    d.group.val = if d.set.high ≤ d.queue.records.length then 0 else 4 - d.set.priority.val) ∧
  ∀ (s : State) (g : Fin 5) (l : LaneId), s.arbiterChoice = some (g, l) →
    s.lanes[l].queue.records ≠ [] ∧ s.lanes[l].group = g ∧
    (∀ k : LaneId, s.lanes[k].queue.records ≠ [] → g ≤ s.lanes[k].group) ∧
    ∀ k : LaneId, s.lanes[k].queue.records ≠ [] → s.lanes[k].group = g →
      (l.val + 7 - s.pointers[g].val) % 8 ≤ (k.val + 7 - s.pointers[g].val) % 8

/-! ### Drawer requests and the lockdown latch -/

/-- RELEASE takes its checks in the order lane ON, lockdown latch, driver-fault latch, drawer CLOSED, host mask; the
first that fails gives the reply and nothing changes, DENIED alone carrying a failing set. A grant clears the consume
set, enters RELEASING with DRVn energized and the pulse timer set, and offers the GRANTED record. The failing set holds
the tests of the mask that are false. A local release attempt makes the same checks with the key mask. A grant is
recorded with source KEY; a refusal offers a DRAWER REFUSED record with the drawer state, the reason and, for DENIED,
the failing set, and changes no drawer state. -/
def Obligations.ReleaseChecksAndGrants : Prop :=
  ((∀ (s : State) (tag lane : Byte) (l : LaneId), s.ready → lane.toNat = l.val →
    (s.lanes[l].on = false → exec (.release tag lane) s = .next (s.answered 0x8A tag .notReady [0])) ∧
    (s.lanes[l].on = true → s.lockdown = true →
      exec (.release tag lane) s = .next (s.answered 0x8A tag .lockedDown [0])) ∧
    (s.lanes[l].on = true → s.lockdown = false → s.lanes[l].drawer.fault = true →
      exec (.release tag lane) s = .next (s.answered 0x8A tag .faulted [0])) ∧
    (s.lanes[l].on = true → s.lockdown = false → s.lanes[l].drawer.fault = false →
      s.lanes[l].drawer.state ≠ .closed → exec (.release tag lane) s = .next (s.answered 0x8A tag .busy [0])) ∧
    (s.lanes[l].on = true → s.lockdown = false → s.lanes[l].drawer.fault = false →
      s.lanes[l].drawer.state = .closed → s.lanes[l].failing s.lanes[l].set.hostMask ≠ 0 →
      exec (.release tag lane) s = .next
        (s.answered 0x8A tag .denied [(s.lanes[l].failing s.lanes[l].set.hostMask).setWidth 8])) ∧
    (s.lanes[l].on = true → s.lockdown = false → s.lanes[l].drawer.fault = false →
      s.lanes[l].drawer.state = .closed → s.lanes[l].failing s.lanes[l].set.hostMask = 0 →
      ∃ t, exec (.release tag lane) s = .next t ∧ State.QuietFrame (s.answered 0x8A tag .done [0]) t l ∧
        s.OfferedB t l (.drawer .granted .releasing (some .host) none none) ∧
        Lane.Offered
          { s.lanes[l] with
            drawer :=
              { s.lanes[l].drawer with
                flags := s.lanes[l].drawer.flags &&& ~~~s.lanes[l].set.consume
                state := .releasing
                drv := true
                pulse := some (after s.timeBase s.lanes[l].cfg.pulse) } }
          t.lanes[l] l s.timeBase (.drawer .granted .releasing (some .host) none none))) ∧
  ∀ (d : Lane) (mask : TestSet),
    (d.failing mask).getLsbD 0 =
      (mask.getLsbD 0 && !(decide (d.keys.keylock = .operate) || decide (d.keys.keylock = .manager))) ∧
    (d.failing mask).getLsbD 1 = (mask.getLsbD 1 && !decide (d.keys.keylock = .manager)) ∧
    (d.failing mask).getLsbD 2 = (mask.getLsbD 2 && !d.drawer.flags.getLsbD 0) ∧
    (d.failing mask).getLsbD 3 = (mask.getLsbD 3 && !d.drawer.flags.getLsbD 1) ∧
    (d.failing mask).getLsbD 4 = (mask.getLsbD 4 && !d.drawer.flags.getLsbD 2) ∧
    (d.failing mask).getLsbD 5 = (mask.getLsbD 5 && !d.drawer.flags.getLsbD 3) ∧
    (d.failing mask).getLsbD 6 =
      (mask.getLsbD 6 && !decide (∀ p ∈ d.keys.downList, d.cfg.releaseKey = some p))) ∧
  (∀ v : LaneView, v.ln.on = true → ∀ code failing,
    (code, failing) =
      (if v.lockdown then (ReplyCode.lockedDown, (0 : TestSet))
      else if v.ln.drawer.fault then (.faulted, 0)
      else if v.ln.drawer.state ≠ .closed then (.busy, 0)
      else if v.ln.failing v.ln.set.keyMask ≠ 0 then (.denied, v.ln.failing v.ln.set.keyMask)
      else (.done, 0)) →
    (code ≠ .done →
      v.localAttempt = v.offer (.drawer .refused v.ln.drawer.state none (some (code, failing)) none)) ∧
    (code = .done →
      v.localAttempt =
        LaneView.offer
          (v.setDrawer
            { v.ln.drawer with
              flags := v.ln.drawer.flags &&& ~~~v.ln.set.consume
              state := .releasing
              drv := true
              pulse := some (after v.now v.ln.cfg.pulse) })
          (.drawer .granted .releasing (some .key) none none)))

/-- FLAGS clears the flags of the clear list and then sets those of the set list, in every lane state; a list that names
anything but the four flags is refused and changes nothing. -/
def Obligations.FlagsAreClearedThenSet : Prop :=
  ∀ (s : State) (tag lane setList clearList : Byte) (l : LaneId), s.ready → lane.toNat = l.val →
    (16 ≤ setList.toNat ∨ 16 ≤ clearList.toNat →
      exec (.flags tag lane setList clearList) s = .next (s.answered 0x8B tag .badField [])) ∧
    (setList.toNat < 16 → clearList.toNat < 16 →
      ∃ f : FlagSet,
        exec (.flags tag lane setList clearList) s = .next
          ((s.withLaneAs l { s.lanes[l] with drawer := { s.lanes[l].drawer with flags := f } }).answered 0x8B tag
            .done []) ∧
        ∀ i : Fin 4,
          f.getLsbD i = if setList.getLsbD i then true else if clearList.getLsbD i then false
            else s.lanes[l].drawer.flags.getLsbD i)

/-- An assertion event of LKD sets the lockdown latch, raises the LOCKDOWN alarm, and cuts the pulse of every RELEASING
drawer, which enters AWAIT_OPEN, or OPEN with its record when its sense is open, with the scanner command of the DRAWER
reason it then adds; no other lane changes. An assertion of a level already held, and a deassertion, change the level
alone; that a row which finds LKD asserted already is no assertion event is the model's reading (Log 20). UNLOCK is refused
with STILL_ASSERTED while LKD is asserted, and otherwise clears the latch, set or not. -/
def Obligations.LockdownCutsEveryPulseAndUnlockClears : Prop :=
  ((∀ s : State, s.held = false → s.lkdLevel = true → exec .lkdAssert s = .next { s with lkdPin := true }) ∧
  (∀ s : State, s.held = false → exec .lkdDeassert s = .next { s with lkdPin := false, lkdLevel := false }) ∧
  ∀ s : State, s.held = false → s.lkdLevel = false →
    ∃ t, exec .lkdAssert s = .next t ∧
      t =
        { s with
          lanes := t.lanes
          lkdPin := true
          lkdLevel := true
          lockdown := true
          alarms := raiseAlarm s.timeBase .lockdown none s.alarms
          attn := true } ∧
      ∀ l : LaneId,
        (s.lanes[l].drawer.state ≠ .releasing → t.lanes[l] = s.lanes[l]) ∧
        (s.lanes[l].drawer.state = .releasing → s.lanes[l].drawer.sense ≠ some .opened →
          t.lanes[l] =
            { s.lanes[l] with
              drawer :=
                { s.lanes[l].drawer with
                  drv := false, pulse := none, state := .awaitOpen
                  confirm := some (after s.timeBase s.lanes[l].cfg.confirm) } }) ∧
        (s.lanes[l].drawer.state = .releasing → s.lanes[l].drawer.sense = some .opened →
          State.OfferedB { s with attn := true } t l (.drawer .opened .opened none none none) ∧
          ∃ d : Lane,
            s.lanes[l].Redirected d
              { s.lanes[l].port.reasons with
                drawer := s.lanes[l].port.reasons.drawer || s.lanes[l].set.inhibitOpen } ∧
            Lane.Offered
              { d with
                drawer :=
                  { s.lanes[l].drawer with
                    drv := false, pulse := none, state := .opened, confirm := none, openStart := some s.timeBase
                    openLong := some (after s.timeBase (s.lanes[l].set.openLong * 1000)) } }
              t.lanes[l] l s.timeBase (.drawer .opened .opened none none none))) ∧
  (∀ (s : State) (tag : Byte), s.ready →
    (s.lkdLevel = true → exec (.unlock tag) s = .next (s.answered 0x90 tag .stillAsserted [])) ∧
    (s.lkdLevel = false →
      exec (.unlock tag) s = .next (State.answered { s with lockdown := false } 0x90 tag .done [])))

/-- CLRFAULT changes nothing where the driver-fault latch is clear; where it is set the latch is cleared and, in an ON
lane, the fall of DRIVER_FAULT is handed to the condition monitor. The reply is DONE in every lane state, and no drawer
state and no timer changes. -/
def Obligations.ClrFaultClearsTheLatchAlone : Prop :=
  ∀ (s : State) (tag lane : Byte) (l : LaneId), s.ready → lane.toNat = l.val →
    (s.lanes[l].drawer.fault = false → exec (.clrFault tag lane) s = .next (s.answered 0x91 tag .done [])) ∧
    (s.lanes[l].drawer.fault = true →
      ∃ t, exec (.clrFault tag lane) s = .next t ∧ State.QuietFrame (s.answered 0x91 tag .done []) t l ∧
        Lane.HandedOver { s.lanes[l] with drawer := { s.lanes[l].drawer with fault := false } } t.lanes[l] l s.timeBase
          .driverFault false ∧
        s.Monitored t l .driverFault false)

/-! ### Drawer events -/

/-- An assertion of DOCn is heard in RELEASING alone: the pulse is cut, the latch set, the DRIVER_FAULT alarm raised, the
drawer enters AWAIT_OPEN (or OPEN, with its record and the scanner command of the DRAWER reason, when its sense is open)
and DRIVER_FAULT becomes true. -/
def Obligations.DriverFaultCutsThePulse : Prop :=
  ∀ (s : State) (l : LaneId), s.held = false →
    (s.lanes[l].drawer.state ≠ .releasing → exec (.docAssert l) s = .next s) ∧
    (s.lanes[l].drawer.state = .releasing → s.lanes[l].drawer.sense ≠ some .opened →
      ∃ t, exec (.docAssert l) s = .next t ∧ State.LaneFrame s t l ∧ t.poolFree = s.poolFree ∧
        t.alarms = raiseAlarm s.timeBase .driverFault (some l) s.alarms ∧ t.attn = true ∧
        Lane.HandedOver
          { s.lanes[l] with
            drawer :=
              { s.lanes[l].drawer with
                drv := false, pulse := none, fault := true, state := .awaitOpen
                confirm := some (after s.timeBase s.lanes[l].cfg.confirm) } }
          t.lanes[l] l s.timeBase .driverFault true ∧
        State.Monitored { s with attn := true } t l .driverFault true) ∧
    (s.lanes[l].drawer.state = .releasing → s.lanes[l].drawer.sense = some .opened →
      ∃ (t : State) (d opened : Lane), exec (.docAssert l) s = .next t ∧ State.LaneFrame s t l ∧ t.poolFree = s.poolFree ∧
        t.alarms = raiseAlarm s.timeBase .driverFault (some l) s.alarms ∧ t.attn = true ∧
        s.lanes[l].Redirected d
          { s.lanes[l].port.reasons with
            drawer := s.lanes[l].port.reasons.drawer || s.lanes[l].set.inhibitOpen } ∧
        Lane.Offered
          { d with
            drawer :=
              { s.lanes[l].drawer with
                drv := false, pulse := none, fault := true, state := .opened, confirm := none
                openStart := some s.timeBase
                openLong := some (after s.timeBase (s.lanes[l].set.openLong * 1000)) } }
          opened l s.timeBase (.drawer .opened .opened none none none) ∧
        opened.HandedOver t.lanes[l] l s.timeBase .driverFault true ∧
        (s.lanes[l].count < 32 →
          s.lanes[l].Appended t.lanes[l] (s.recordOf l (.drawer .opened .opened none none none))) ∧
        t.lanes[l].liveOf .driverFault = (if s.lanes[l].on then true else s.lanes[l].liveOf .driverFault) ∧
        ∀ c : Condition, c ≠ .driverFault → c ≠ .scannerHeld → t.lanes[l].liveOf c = s.lanes[l].liveOf c)

/-- The drawer timers. A pulse expiry ends the pulse: with an open sense the drawer enters OPEN with its record and the
scanner command of the DRAWER reason, otherwise AWAIT_OPEN with the confirm timer set. A confirm expiry returns a
waiting drawer to CLOSED with NOT_OPENED. An open-long expiry enters OPEN_LONG, its record before the rise of
DRAWER_LONG. -/
def Obligations.DrawerTimersMoveTheDrawer : Prop :=
  ∀ (s : State) (l : LaneId), s.held = false →
    (s.lanes[l].drawer.state = .releasing → expired s.timeBase s.lanes[l].drawer.pulse = true →
      (s.lanes[l].drawer.sense ≠ some .opened →
        exec (.pulseExpiry l) s = .next
          (s.withLaneAs l
            { s.lanes[l] with
              drawer :=
                { s.lanes[l].drawer with
                  drv := false, pulse := none, state := .awaitOpen
                  confirm := some (after s.timeBase s.lanes[l].cfg.confirm) } })) ∧
      (s.lanes[l].drawer.sense = some .opened →
        ∃ (t : State) (d : Lane), exec (.pulseExpiry l) s = .next t ∧ s.QuietFrame t l ∧
          s.lanes[l].Redirected d
            { s.lanes[l].port.reasons with
              drawer := s.lanes[l].port.reasons.drawer || s.lanes[l].set.inhibitOpen } ∧
          Lane.Offered
            { d with
              drawer :=
                { s.lanes[l].drawer with
                  drv := false, pulse := none, state := .opened, openStart := some s.timeBase
                  openLong := some (after s.timeBase (s.lanes[l].set.openLong * 1000)) } }
            t.lanes[l] l s.timeBase (.drawer .opened .opened none none none) ∧
          s.OfferedB t l (.drawer .opened .opened none none none))) ∧
    (s.lanes[l].drawer.state = .awaitOpen → expired s.timeBase s.lanes[l].drawer.confirm = true →
      ∃ t, exec (.confirmExpiry l) s = .next t ∧ s.QuietFrame t l ∧
        Lane.Offered
          { s.lanes[l] with
            drawer := { s.lanes[l].drawer with state := .closed, confirm := none, openStart := none } }
          t.lanes[l] l s.timeBase (.drawer .notOpened .closed none none none) ∧
        s.OfferedB t l (.drawer .notOpened .closed none none none)) ∧
    (s.lanes[l].drawer.state = .opened → expired s.timeBase s.lanes[l].drawer.openLong = true →
      ∃ (t : State) (recorded : Lane), exec (.openLongExpiry l) s = .next t ∧ s.QuietFrame t l ∧
        Lane.Offered
          { s.lanes[l] with drawer := { s.lanes[l].drawer with state := .openLong, openLong := none } }
          recorded l s.timeBase (.drawer .openLong .openLong none none none) ∧
        recorded.HandedOver t.lanes[l] l s.timeBase .drawerLong true ∧
        (s.lanes[l].count < 32 →
          s.lanes[l].Appended t.lanes[l] (s.recordOf l (.drawer .openLong .openLong none none none))) ∧
        t.lanes[l].liveOf .drawerLong = (if s.lanes[l].on then true else s.lanes[l].liveOf .drawerLong) ∧
        ∀ c : Condition, c ≠ .drawerLong → c ≠ .scannerHeld → t.lanes[l].liveOf c = s.lanes[l].liveOf c)

/-! ### Scanner commands -/

/-- INHIBIT on adds HOST to the disable-reason set of an ON lane, and is answered NOT_READY elsewhere; INHIBIT off
removes it in every lane state. A change of the desired enable state acts on the scanner command queue. TONE: NOT_READY
outside ON, BAD_FIELD for a tone outside its list, BUSY while a line check runs, and otherwise the tone joins the queue,
or BUSY when three tones wait behind the head or the queue holds four entries. A completed command leaves the queue, and
an 'E' or 'D' that then begins becomes the line state. STXn carries the four characters of the head command, the byte being
sent during a line check, and mark on an empty queue and on a lane that is not ON. -/
def Obligations.InhibitToneAndCommandSent : Prop :=
  (∀ (s : State) (tag lane : Byte) (l : LaneId), s.ready → lane.toNat = l.val →
    (s.lanes[l].on = false → exec (.inhibitOn tag lane) s = .next (s.answered 0x8C tag .notReady [])) ∧
    (s.lanes[l].on = true →
      ∃ d, exec (.inhibitOn tag lane) s = .next ((s.withLaneAs l d).answered 0x8C tag .done []) ∧
        s.lanes[l].Redirected d { s.lanes[l].port.reasons with host := true }) ∧
    ∃ d, exec (.inhibitOff tag lane) s = .next ((s.withLaneAs l d).answered 0x8C tag .done []) ∧
      s.lanes[l].Redirected d { s.lanes[l].port.reasons with host := false }) ∧
  ((∀ (s : State) (tag lane tone : Byte) (l : LaneId), s.ready → lane.toNat = l.val →
    (s.lanes[l].on = false → exec (.tone tag lane tone) s = .next (s.answered 0x8D tag .notReady [])) ∧
    (s.lanes[l].on = true → 2 ≤ tone.toNat → exec (.tone tag lane tone) s = .next (s.answered 0x8D tag .badField [])) ∧
    (s.lanes[l].on = true → tone.toNat < 2 → s.lanes[l].checking = true →
      exec (.tone tag lane tone) s = .next (s.answered 0x8D tag .busy [])) ∧
    (s.lanes[l].on = true → tone.toNat < 2 → s.lanes[l].checking = false →
      3 ≤ (s.lanes[l].port.cmds.tail.filter ScanCmd.isTone).length ∨ 4 ≤ s.lanes[l].port.cmds.length →
      exec (.tone tag lane tone) s = .next (s.answered 0x8D tag .busy [])) ∧
    (s.lanes[l].on = true → tone.toNat < 2 → s.lanes[l].checking = false →
      (s.lanes[l].port.cmds.tail.filter ScanCmd.isTone).length < 3 → s.lanes[l].port.cmds.length < 4 →
      exec (.tone tag lane tone) s = .next
        ((s.withLaneAs l
          { s.lanes[l] with
            port :=
              { s.lanes[l].port with
                cmds := s.lanes[l].port.cmds ++ [.tone (if tone = 0 then .good else .bad)] } }).answered 0x8D tag
          .done []))) ∧
  (∀ (s : State) (l : LaneId) (c : ScanCmd) (rest : List ScanCmd), s.held = false → s.lanes[l].on = true →
    s.lanes[l].checking = false → s.lanes[l].port.cmds = c :: rest →
      exec (.commandSent l) s = .next
        (s.withLaneAs l
          { s.lanes[l] with
            port :=
              { s.lanes[l].port with
                cmds := rest
                lineState :=
                  match rest with
                  | .enable e :: _ => some e
                  | _ => s.lanes[l].port.lineState } }))) ∧
  (∀ d : Lane,
    (d.on = false → d.stx = .mark) ∧
    (d.on = true → d.checking = true →
      d.stx = match d.checker.sending with | some b => .checkByte b | none => .mark) ∧
    (d.on = true → d.checking = false → d.stx = match d.port.cmds with | c :: _ => .command c | [] => .mark)) ∧
  ∀ (c : ScanCmd) (b : Byte),
    b = (match c with
      | .enable .enabled => 0x45 | .enable .disabled => 0x44 | .tone .good => 0x47 | .tone .bad => 0x42) →
    c.frame = [0x01, b, 0x17, b]

/-! ### Counters -/

/-- COUNTS answers with the counters as they stand. In MANUAL with the clear option it zeroes them, and COUNTER_FULL is
evaluated when one was not zero; in AUTO the clear is ignored and answered CLAMPED; a clear option outside its list is
BAD_FIELD. The reply shows the counters before the clear, by R145 over R181 (Log 15). -/
def Obligations.CountsReadsAndClears : Prop :=
  ∀ (s : State) (tag lane clear : Byte) (l : LaneId), s.ready → lane.toNat = l.val →
    (2 ≤ clear.toNat → exec (.counts tag lane clear) s = .next (s.answered 0x8E tag .badField [])) ∧
    (clear = 0 → exec (.counts tag lane clear) s = .next (s.answered 0x8E tag .done s.lanes[l].counters.bytes)) ∧
    (clear = 1 → s.lanes[l].set.counterMode = .auto →
      exec (.counts tag lane clear) s = .next (s.answered 0x8E tag .clamped s.lanes[l].counters.bytes)) ∧
    (clear = 1 → s.lanes[l].set.counterMode = .manual → s.lanes[l].counters = .zero →
      exec (.counts tag lane clear) s = .next (s.answered 0x8E tag .done s.lanes[l].counters.bytes)) ∧
    (clear = 1 → s.lanes[l].set.counterMode = .manual → s.lanes[l].counters ≠ .zero →
      ∃ t, exec (.counts tag lane clear) s = .next t ∧
        State.QuietFrame (s.answered 0x8E tag .done s.lanes[l].counters.bytes) t l ∧
        Lane.HandedOver
          { s.lanes[l] with
            counters :=
              { good := 0, checkFail := 0, rejected := 0, duplicate := 0, overrun := 0, frameErr := 0 } }
          t.lanes[l] l s.timeBase .counterFull false ∧
        s.Monitored t l .counterFull false)

/-- The report timer and the duplicate window. At a report expiry the COUNTS record is offered; taken, it zeroes the
counters, refused, it keeps them; the timer moves on by the interval from the expiry just passed. At a window expiry the
window stops and the last accepted code is kept. -/
def Obligations.ReportAndWindowExpiries : Prop :=
  (∀ (s : State) (l : LaneId) (point : Time), s.held = false → s.lanes[l].on = true →
    s.lanes[l].reportTimer = some point → expired s.timeBase (some point) = true →
      ∃ (t : State) (recorded : Lane), exec (.reportTimerExpiry l) s = .next t ∧ s.QuietFrame t l ∧
        s.lanes[l].Offered recorded l s.timeBase (.counts s.lanes[l].counters s.lanes[l].set.interval) ∧
        Lane.Closed
          { recorded with
            reportTimer := some (after point (s.lanes[l].set.interval * 1000))
            counters := if s.lanes[l].count < 32 then Counters.zero else s.lanes[l].counters }
          t.lanes[l] l s.timeBase s.lanes[l].counters ∧
        (∀ c : Condition, c ≠ .counterFull → c ≠ .scannerHeld → t.lanes[l].liveOf c = s.lanes[l].liveOf c) ∧
        (t.lanes[l].liveOf .counterFull =
          if s.lanes[l].count < 32 ∧ s.lanes[l].counters ≠ .zero then false else s.lanes[l].liveOf .counterFull) ∧
        s.OfferedB t l (.counts s.lanes[l].counters s.lanes[l].set.interval)) ∧
  ∀ (s : State) (l : LaneId), s.held = false → expired s.timeBase s.lanes[l].filter.window = true →
    exec (.duplicateWindowExpiry l) s = .next
      (s.withLaneAs l { s.lanes[l] with filter := { s.lanes[l].filter with window := none } })

/-! ### The line check -/

/-- CHECK start: NOT_READY outside ON, BUSY while a check runs, and otherwise the port gives up its line and the checker
starts in HUNT with its timer set and the first byte of the sequence on the line, CLAMPED when the duration was not 1 to
60. CHECK insert marks the next byte, and is refused without a running check or with an insert pending. That the receiver's
state reads IDLE during the check, where R60 has it leave IDLE, is the model's choice (Log 26). -/
def Obligations.CheckStartsAndInserts : Prop :=
  ∀ (s : State) (tag lane duration : Byte) (l : LaneId), s.ready → lane.toNat = l.val →
    (s.lanes[l].on = false →
      exec (.checkStart tag lane duration) s = .next (s.answered 0x8F tag .notReady []) ∧
        exec (.checkInsert tag lane) s = .next (s.answered 0x8F tag .notReady [])) ∧
    (s.lanes[l].on = true → s.lanes[l].checking = true →
      exec (.checkStart tag lane duration) s = .next (s.answered 0x8F tag .busy []) ∧
      (s.lanes[l].checker.insert = true →
        exec (.checkInsert tag lane) s = .next (s.answered 0x8F tag .busy [])) ∧
      (s.lanes[l].checker.insert = false →
        exec (.checkInsert tag lane) s = .next
          ((s.withLaneAs l { s.lanes[l] with checker := { s.lanes[l].checker with insert := true } }).answered 0x8F tag
            .done []))) ∧
    (s.lanes[l].on = true → s.lanes[l].checking = false →
      exec (.checkInsert tag lane) s = .next (s.answered 0x8F tag .notReady []) ∧
      exec (.checkStart tag lane duration) s = .next
        ((s.withLaneAs l
          { s.lanes[l] with
            port :=
              { s.lanes[l].port with
                reasons := { s.lanes[l].port.reasons with check := true }
                cmds := []
                rx := { state := .idle, cls := none, chars := [], gap := none, breakPending := false } }
            checker :=
              { state := .hunt
                timer := some (s.timeBase + BitVec.ofNat 32 (clamp 1 60 duration.toNat * 1000))
                reg := 0x22AC#16, sent := [0xAC#8], run := 0, history := [], insert := false, bytesSent := 1
                bytesMatched := 0, mismatches := 0, lockLosses := 0, sending := some 0xAC#8
                freeIdx := s.lanes[l].checker.freeIdx } }).answered 0x8F tag
          (if 1 ≤ duration.toNat ∧ duration.toNat ≤ 60 then .done else .clamped) []))

/-- A check ends at CHECK stop with cause HOST, or at the expiry of its timer with cause TIME: the CHECK record is offered
with the tallies and the state the check ended in, the checker is idle with its window, run and history empty and its
tallies kept, and the port takes back its line and states the desired enable state. Without a running check CHECK stop is
answered NOT_READY. -/
def Obligations.CheckEndsAtStopOrExpiry : Prop :=
  (∀ (s : State) (tag lane : Byte) (l : LaneId), s.ready → lane.toNat = l.val →
    s.lanes[l].on = false ∨ s.lanes[l].checking = false →
      exec (.checkStop tag lane) s = .next (s.answered 0x8F tag .notReady [])) ∧
  (∀ (s : State) (tag lane : Byte) (l : LaneId), s.ready → lane.toNat = l.val → s.lanes[l].on = true →
    s.lanes[l].checking = true → s.lanes[l].port.cmds = [] →
      ∃ t, exec (.checkStop tag lane) s = .next t ∧ State.QuietFrame (s.answered 0x8F tag .done []) t l ∧
        s.CheckEnded t l .host) ∧
  ∀ (s : State) (l : LaneId), s.held = false → s.lanes[l].on = true → s.lanes[l].checking = true →
    s.lanes[l].port.cmds = [] → expired s.timeBase s.lanes[l].checker.timer = true →
      ∃ t, exec (.checkTimerExpiry l) s = .next t ∧ s.QuietFrame t l ∧ s.CheckEnded t l .time

/-- The sequence register shifts toward bit 0 with the exclusive-or of bits 0, 2, 3 and 5 entering at bit 15, and eight
shifts make one byte of the sequence. The beginning of a check byte: the register is shifted eight times, its low byte
is counted as sent, joins the sent window and goes on the line, inverted when an insert was pending. A full window loses
its oldest entry, in LOCKED as a mismatch that enters the history and may lose the lock. A tally past 4,294,967,295 is a
free value, of which nothing is said (Log 7). -/
def Obligations.CheckBytesAreMadeSentAndRemembered : Prop :=
  ((∀ (r : BitVec 16) (i : Fin 15), (shiftSequence r).getLsbD i = r.getLsbD (i.val + 1)) ∧
  (∀ r : BitVec 16,
    (shiftSequence r).getLsbD 15 =
      ((r.getLsbD 0 ^^ r.getLsbD 2) ^^ (r.getLsbD 3 ^^ r.getLsbD 5))) ∧
  ∀ r : BitVec 16, nextSequence r = shiftSequence^[8] r) ∧
  (∀ (s : State) (l : LaneId) (b : Byte) (e : Bool), s.held = false → s.lanes[l].on = true →
    s.lanes[l].checking = true →
    (∃ t, exec (.checkByteSent l) s = .next t ∧ s.QuietFrame t l ∧
      t.lanes[l] = { s.lanes[l] with checker := t.lanes[l].checker } ∧
      t.lanes[l].checker.reg = shiftSequence^[8] s.lanes[l].checker.reg ∧
      t.lanes[l].checker.bytesMatched = s.lanes[l].checker.bytesMatched ∧ t.lanes[l].checker.insert = false) ∧
    ∃ t, exec (.checkByteArrival l b e) s = .next t ∧ s.QuietFrame t l ∧
      t.lanes[l] = { s.lanes[l] with checker := t.lanes[l].checker } ∧
      t.lanes[l].checker.reg = s.lanes[l].checker.reg ∧
      t.lanes[l].checker.bytesSent = s.lanes[l].checker.bytesSent ∧
      t.lanes[l].checker.sending = s.lanes[l].checker.sending ∧
      t.lanes[l].checker.insert = s.lanes[l].checker.insert ∧
      t.lanes[l].checker.timer = s.lanes[l].checker.timer) ∧
  (∀ (s : State) (l : LaneId) (c : LineChecker) (reg : BitVec 16) (b : Byte), s.held = false → s.lanes[l].on = true →
    s.lanes[l].checking = true → s.lanes[l].checker.bytesSent ≠ BitVec.allOnes 32 →
    s.lanes[l].checker.mismatches ≠ BitVec.allOnes 32 → s.lanes[l].checker.history.length ≤ 16 →
    reg = shiftSequence^[8] s.lanes[l].checker.reg → b = reg.setWidth 8 →
    c =
      { s.lanes[l].checker with
        reg := reg
        bytesSent := s.lanes[l].checker.bytesSent + 1
        sending := some (if s.lanes[l].checker.insert then b ^^^ 0xFF else b)
        insert := false } →
    (s.lanes[l].checker.sent.length < 16 →
      exec (.checkByteSent l) s = .next
        (s.withLaneAs l { s.lanes[l] with checker := { c with sent := s.lanes[l].checker.sent ++ [b] } })) ∧
    (s.lanes[l].checker.sent.length = 16 → s.lanes[l].checker.state = .hunt →
      exec (.checkByteSent l) s = .next
        (s.withLaneAs l { s.lanes[l] with checker := { c with sent := s.lanes[l].checker.sent.tail ++ [b] } })) ∧
    (s.lanes[l].checker.sent.length = 16 → s.lanes[l].checker.state = .locked →
      ∀ history, history = (s.lanes[l].checker.history ++ [false]).drop (s.lanes[l].checker.history.length - 15) →
      exec (.checkByteSent l) s = .next
        (s.withLaneAs l
          { s.lanes[l] with
            checker :=
              if 4 ≤ history.count false then
                { c with
                  sent := s.lanes[l].checker.sent.tail ++ [b], mismatches := s.lanes[l].checker.mismatches + 1
                  state := .hunt, run := 0, history := [], lockLosses := bump16 s.lanes[l].checker.lockLosses }
              else
                { c with
                  sent := s.lanes[l].checker.sent.tail ++ [b], mismatches := s.lanes[l].checker.mismatches + 1
                  history := history } })))

/-- A byte returning during a check. In HUNT with no run, the first equal entry of the sent window and everything before it
leave and a run begins; with a run, the oldest entry is compared, a match carrying the run on and locking at eight, a
mismatch or an empty window ending it. In LOCKED the oldest entry leaves, the outcome is counted and enters the history of
the last 16, and four mismatches among them lose the lock. A stop-bit error does not matter, but that a byte 0x00 with one
is a break character, which is not compared (R43, Log 25). Both byte rows of SRXn come to the same (Log 19). -/
def Obligations.CheckByteIsCompared : Prop :=
  ∀ (s : State) (l : LaneId) (b : Byte) (e : Bool) (c : LineChecker), s.held = false → s.lanes[l].on = true →
    c = s.lanes[l].checker → c.bytesMatched ≠ BitVec.allOnes 32 → c.mismatches ≠ BitVec.allOnes 32 →
    c.history.length ≤ 16 →
    exec (.scannerByteArrival l b e) s = exec (.checkByteArrival l b e) s ∧
    (c.state ≠ .idle → b = 0x00 → e = true → exec (.checkByteArrival l b e) s = .next s) ∧
    (b ≠ 0x00 ∨ e = false →
    (c.state = .hunt → c.run = 0 → b ∉ c.sent → exec (.checkByteArrival l b e) s = .next s) ∧
    (∀ before rest, c.state = .hunt → c.run = 0 → c.sent = before ++ b :: rest → b ∉ before →
      exec (.checkByteArrival l b e) s = .next
        (s.withLaneAs l
          { s.lanes[l] with
            checker := { c with sent := rest, run := 1, bytesMatched := c.bytesMatched + 1 } })) ∧
    (c.state = .hunt → c.run ≠ 0 → c.run < 8 → c.sent.head? ≠ some b →
      exec (.checkByteArrival l b e) s = .next
        (s.withLaneAs l { s.lanes[l] with checker := { c with run := 0 } })) ∧
    (∀ rest, c.state = .hunt → c.run ≠ 0 → c.run < 8 → c.sent = b :: rest →
      exec (.checkByteArrival l b e) s = .next
        (s.withLaneAs l
          { s.lanes[l] with
            checker :=
              if c.run = 7 then
                { c with
                  sent := rest, bytesMatched := c.bytesMatched + 1, state := .locked, run := 0, history := [] }
              else { c with sent := rest, run := c.run + 1, bytesMatched := c.bytesMatched + 1 } })) ∧
    (∀ d : LineChecker, c.state = .locked →
      d =
        (if c.sent.head? = some b then
          { c with
            sent := c.sent.tail, bytesMatched := c.bytesMatched + 1
            history := (c.history ++ [true]).drop (c.history.length - 15) }
        else
          { c with
            sent := c.sent.tail, mismatches := c.mismatches + 1
            history := (c.history ++ [false]).drop (c.history.length - 15) }) →
      exec (.checkByteArrival l b e) s = .next
        (s.withLaneAs l
          { s.lanes[l] with
            checker :=
              if 4 ≤ d.history.count false then
                { d with state := .hunt, run := 0, history := [], lockLosses := bump16 c.lockLosses }
              else d })))

/-! ### The scanner receiver -/

/-- Bytes that carry a frame forward. IDLE: SOH starts a frame. IN_FRAME: the class byte, then data characters of the class
up to 48, then ETB behind at least one of them. Each sets the gap timer and changes the receive assembly alone; an IDLE
receiver ignores any other byte. -/
def Obligations.FrameBytesAreAssembled : Prop :=
  ∀ (s : State) (l : LaneId) (b : Byte) (rx : Receiver) (gap : Time), s.held = false → s.lanes[l].on = true →
    s.lanes[l].checking = false → rx = s.lanes[l].port.rx → rx.breakPending = false →
    gap = after s.timeBase s.lanes[l].cfg.gap →
    (∀ e, rx.state = .idle → b ≠ 0x01 ∨ e = true → exec (.scannerByteArrival l b e) s = .next s) ∧
    ∀ rx' : Receiver,
      (rx.state = .idle ∧ b = 0x01 ∧
          rx' = { state := .inFrame, cls := none, chars := [], gap := some gap, breakPending := false }) ∨
      (rx.state = .inFrame ∧ rx.cls = none ∧ b = 0x4E ∧ rx' = { rx with cls := some .numeric, gap := some gap }) ∨
      (rx.state = .inFrame ∧ rx.cls = none ∧ b = 0x41 ∧ rx' = { rx with cls := some .alpha, gap := some gap }) ∨
      (rx.state = .inFrame ∧ rx.cls = some .numeric ∧ 0x30 ≤ b.toNat ∧ b.toNat ≤ 0x39 ∧ rx.chars.length < 48 ∧
          rx' = { rx with chars := rx.chars ++ [b], gap := some gap }) ∨
      (rx.state = .inFrame ∧ rx.cls = some .alpha ∧ 0x20 ≤ b.toNat ∧ b.toNat ≤ 0x7E ∧ rx.chars.length < 48 ∧
          rx' = { rx with chars := rx.chars ++ [b], gap := some gap }) ∨
      (rx.state = .inFrame ∧ rx.cls.isSome = true ∧ b = 0x17 ∧ rx.chars ≠ [] ∧
          rx' = { rx with state := .awaitBcc, gap := some gap }) →
        exec (.scannerByteArrival l b false) s = .next
          (s.withLaneAs l { s.lanes[l] with port := { s.lanes[l].port with rx := rx' } })

/-- Events that abort a frame in assembly: a byte other than 0x00 with a stop-bit error, an SOH in IN_FRAME (which then
starts a new frame), a class byte that is neither 'N' nor 'A', an ETB with no data before it, a character outside the
class or beyond the 48th, a BCC that differs, and the expiry of the gap timer. Each counts FRAME_ERR, stopping at 65535,
offers a 'B' under confirm tones whatever the count does, and evaluates COUNTER_FULL when the count moved.
That a stop-bit error aborts also when its byte is SOH, starting
no frame, is the model's reading (Log 11); a byte 0x00 with one is a break character (R43, Log 25). -/
def Obligations.BrokenFramesAreAborted : Prop :=
  ∀ (s : State) (l : LaneId) (rx : Receiver), s.held = false → s.lanes[l].on = true → s.lanes[l].checking = false →
    rx = s.lanes[l].port.rx → rx.breakPending = false →
    (rx.state ≠ .idle → ∀ b, b ≠ 0x00 →
      ∃ t, exec (.scannerByteArrival l b true) s = .next t ∧ s.FrameAborted t l .reset) ∧
    (rx.state = .inFrame →
      ∃ t, exec (.scannerByteArrival l 0x01 false) s = .next t ∧
        s.FrameAborted t l
          { state := .inFrame, cls := none, chars := [], gap := some (after s.timeBase s.lanes[l].cfg.gap)
            breakPending := false }) ∧
    (∀ b, rx.state = .inFrame → b ≠ 0x01 →
      (rx.cls = none ∧ b ≠ 0x4E ∧ b ≠ 0x41) ∨ (rx.cls.isSome = true ∧ b = 0x17 ∧ rx.chars = []) ∨
        (rx.cls = some .numeric ∧ b ≠ 0x17 ∧ (b.toNat < 0x30 ∨ 0x39 < b.toNat ∨ 48 ≤ rx.chars.length)) ∨
        (rx.cls = some .alpha ∧ b ≠ 0x17 ∧ (b.toNat < 0x20 ∨ 0x7E < b.toNat ∨ 48 ≤ rx.chars.length)) →
      ∃ t, exec (.scannerByteArrival l b false) s = .next t ∧ s.FrameAborted t l .reset) ∧
    (∀ b cls, rx.state = .awaitBcc → rx.cls = some cls →
      b ≠ rx.chars.foldl (fun x y => x ^^^ y) (match cls with | .numeric => 0x4E | .alpha => 0x41) →
      ∃ t, exec (.scannerByteArrival l b false) s = .next t ∧ s.FrameAborted t l .reset) ∧
    (rx.state ≠ .idle → expired s.timeBase rx.gap = true →
      ∃ t, exec (.scannerGapExpiry l) s = .next t ∧ s.FrameAborted t l .reset)

/-- A return of SRXn to mark aborts the frame a break character left pending. The break timer expiring at space makes the
scanner absent and discards a frame in assembly uncounted; at mark it brings an absent scanner back: the fall of
SCANNER_ABSENT is handed to the monitor, and then, under every report mode, the enable state is re-stated unless a line
check runs. That the break timer is stopped by its expiry is the model's choice (Log 6). -/
def Obligations.BreaksEndFramesAndFindTheScannerAbsent : Prop :=
  (∀ (s : State) (l : LaneId), s.held = false → s.lanes[l].on = true → s.lanes[l].pins.srx = .space →
    s.lanes[l].port.rx.breakPending = true → s.lanes[l].checking = false →
      ∃ p t,
        p =
          s.withLaneAs l
            { s.lanes[l] with
              pins := { s.lanes[l].pins with srx := .mark }
              port :=
                { s.lanes[l].port with
                  brk :=
                    { s.lanes[l].port.brk with
                      held := some { level := .mark, since := s.timeBase }
                      timer := some (s.timeBase + 100) } } } ∧
        exec (.srxLevelChange l .mark) s = .next t ∧ p.FrameAborted t l .reset) ∧
  ∀ (s : State) (l : LaneId) (h : LineHold), s.held = false → s.lanes[l].on = true →
    expired s.timeBase s.lanes[l].port.brk.timer = true → s.lanes[l].port.brk.held = some h →
    (h.level = .space →
      ∃ t, exec (.breakTimerExpiry l) s = .next t ∧ s.QuietFrame t l ∧
        Lane.HandedOver
          { s.lanes[l] with
            port :=
              { s.lanes[l].port with
                rx := Receiver.reset
                brk := { s.lanes[l].port.brk with absent := true, timer := none } } }
          t.lanes[l] l s.timeBase .scannerAbsent true ∧
        s.Monitored t l .scannerAbsent true) ∧
    (h.level = .mark → s.lanes[l].port.brk.absent = false →
      exec (.breakTimerExpiry l) s = .next
        (s.withLaneAs l
          { s.lanes[l] with
            port := { s.lanes[l].port with brk := { s.lanes[l].port.brk with timer := none } } })) ∧
    (h.level = .mark → s.lanes[l].port.brk.absent = true →
      ∃ (t : State) (found : Lane), exec (.breakTimerExpiry l) s = .next t ∧ s.QuietFrame t l ∧
        Lane.HandedOver
          { s.lanes[l] with
            port := { s.lanes[l].port with brk := { s.lanes[l].port.brk with absent := false, timer := none } } }
          found l s.timeBase .scannerAbsent false ∧
        (s.lanes[l].checking = true → t.lanes[l] = found) ∧
        (s.lanes[l].checking = false → found.Restated t.lanes[l]) ∧
        s.Monitored t l .scannerAbsent false)

/-! ### Codes -/

/-- The first active entry, in index order, whose class, length range and pattern match decides the code: REJECT, then the
check digit, then the value limit; without a match a code is rejected under the strict option and passes without rule or
value otherwise. -/
def Obligations.TheFirstMatchingRuleDecides : Prop :=
  (∀ (r : CodeRule) (code : Code),
    r.matchesCode code = true ↔
      r.active = true ∧ (r.cls = .any ∨ (r.cls = .numeric ∧ code.cls = .numeric) ∨ (r.cls = .alpha ∧ code.cls = .alpha)) ∧
        r.minLen ≤ code.chars.length ∧ code.chars.length ≤ r.maxLen ∧ r.pattern.length ≤ code.chars.length ∧
        ∀ (i : Nat) (b : Byte), r.pattern[i]? = some (some b) → code.chars[i]? = some b) ∧
  (∀ (rules : Vector CodeRule 16) (set : LaneSet) (code : Code),
    (∀ i : RuleIdx, rules[i].matchesCode code = false) →
      judge rules set code = if set.strict then .reject .noRule none else .pass none 0 false none) ∧
  ∀ (rules : Vector CodeRule 16) (set : LaneSet) (code : Code) (i : RuleIdx) (r : CodeRule), r = rules[i] →
    r.matchesCode code = true → (∀ j : RuleIdx, j < i → rules[j].matchesCode code = false) →
    (r.reject = true → judge rules set code = .reject .rule (some i)) ∧
    (r.reject = false → r.mod10 = true → mod10Passes code.chars = false →
      judge rules set code = .reject .check (some i)) ∧
    (r.reject = false → r.mod10 = false ∨ mod10Passes code.chars = true →
      (r.value = none → judge rules set code = .pass (some i) r.tag r.mod10 none) ∧
      (∀ f, r.value = some f → set.valueLimit < f.valueOf code.chars →
        judge rules set code = .reject .valueLimit (some i)) ∧
      (∀ f, r.value = some f → f.valueOf code.chars ≤ set.valueLimit →
        judge rules set code =
          .pass (some i) r.tag r.mod10
            (some { value := f.valueOf code.chars, scale := f.scale, lookup := f.lookupKey r.mod10 code.chars })))

/-- The weighted modulo-10 check: counting from the digit before the check digit toward the left, the weights are 3 and 1
in turn, and the sum with the check digit is a multiple of 10. The value is the decimal number its digits spell, the
leftmost the most significant, and the lookup key is the code with those digits '0' and, under MOD10, the check digit made
good again. -/
def Obligations.CheckDigitValueAndLookupKey : Prop :=
  (∀ chars : List Byte, chars ≠ [] → (∀ b ∈ chars, isDigit b = true) →
    (mod10Passes chars = true ↔
      (((chars.reverse.map fun b => b.toNat - 0x30).zipIdx.map fun d =>
        d.1 * if d.2 % 2 = 1 then 3 else 1).sum) % 10 = 0)) ∧
  ∀ (f : ValueField) (mod10 : Bool) (chars : List Byte), 1 ≤ f.start → 1 ≤ f.count →
    f.start + f.count - 1 ≤ chars.length → (mod10 = true → f.start + f.count - 1 ≤ chars.length - 1) →
    (∀ b ∈ chars, isDigit b = true) →
    (f.valueOf chars =
      ((List.range f.count).map fun i =>
        ((chars.getD (f.start - 1 + i) 0x30).toNat - 0x30) * 10 ^ (f.count - 1 - i)).sum) ∧
    f.valueOf chars < 10 ^ f.count ∧
    (f.lookupKey mod10 chars).length = chars.length ∧
    (mod10 = true → mod10Passes (f.lookupKey mod10 chars) = true) ∧
    ∀ i, i < chars.length → (mod10 = true → i < chars.length - 1) →
      (f.lookupKey mod10 chars)[i]? =
        if f.start - 1 ≤ i ∧ i < f.start - 1 + f.count then some 0x30 else chars[i]?

/-- The valid BCC completes the frame, and the code meets its outcome within the same event: a reject or an accepted
code is recorded while the lane queue has room, counted as an overrun where it has none; a duplicate within its window
is suppressed, restarting the window, with no record and no tone; a taken SCAN record sets the filter. The record's taking
may change FLOW, whose scanner command and SCANNER_HELD record stand ahead of the tone, and COUNTER_FULL is evaluated at
the close when a counter moved. With a window of 0 the window expires at once and the last accepted code stays (Log 16). -/
def Obligations.ACompletedFrameMeetsItsOutcome : Prop :=
  ∀ (s : State) (l : LaneId) (code : Code) (window : Option Time), s.held = false → s.lanes[l].on = true →
    s.lanes[l].checking = false → s.lanes[l].port.rx.state = .awaitBcc → s.lanes[l].port.rx.breakPending = false →
    s.lanes[l].port.rx.cls = some code.cls → s.lanes[l].port.rx.chars = code.chars →
    window = (if s.lanes[l].set.dupWindow = 0 then none else some (after s.timeBase s.lanes[l].set.dupWindow)) →
    exec (.scannerByteArrival l
        (code.chars.foldl (fun x y => x ^^^ y) (match code.cls with | .numeric => 0x4E | .alpha => 0x41)) false) s =
      exec (.frameCompletion l) s ∧
    ∃ t, exec (.frameCompletion l) s = .next t ∧
      (∀ reason rule, judge s.rules s.lanes[l].set code = .reject reason rule →
        (s.roomForCode l →
          s.FrameOutcome t l (some (.reject code reason rule)) (s.lanes[l].counters.raise reason.counter)
            s.lanes[l].filter (some .bad)) ∧
        (¬s.roomForCode l →
          s.FrameOutcome t l none ((s.lanes[l].counters.raise reason.counter).raise .overrun) s.lanes[l].filter
            (some .bad))) ∧
      ∀ rule tag checked value, judge s.rules s.lanes[l].set code = .pass rule tag checked value →
        (s.lanes[l].filter.window.isSome = true → s.lanes[l].filter.last = some code →
          s.FrameOutcome t l none (s.lanes[l].counters.raise .duplicate) { s.lanes[l].filter with window := window }
            none) ∧
        (s.lanes[l].filter.window = none ∨ s.lanes[l].filter.last ≠ some code →
          (s.roomForCode l →
            s.FrameOutcome t l
              (some (.scan code rule tag checked (decide (s.lanes[l].keys.keylock = .training)) value))
              (s.lanes[l].counters.raise .good) { last := some code, window := window } (some .good)) ∧
          (¬s.roomForCode l →
            s.FrameOutcome t l none (s.lanes[l].counters.raise .overrun) s.lanes[l].filter (some .bad)))

/-! ### The key matrix -/

/-- A sample is ambiguous when two rows of the configured matrix are both down at two of its columns, whatever the
attributes; rows and columns outside the matrix take no part. -/
def Obligations.AmbiguityIsTwoRowsSharingTwoColumns : Prop :=
  ∀ (c : LaneCfg) (raw : BitVec 128),
    ambiguous (c.rawDown raw) = true ↔
      ∃ (r₁ r₂ : Fin 8) (c₁ c₂ : Fin 16), r₁ ≠ r₂ ∧ c₁ ≠ c₂ ∧ r₁.val < c.rows ∧ r₂.val < c.rows ∧ c₁.val < c.cols ∧
        c₂.val < c.cols ∧ raw.getLsbD (16 * r₁.val + c₁.val) = true ∧ raw.getLsbD (16 * r₁.val + c₂.val) = true ∧
        raw.getLsbD (16 * r₂.val + c₁.val) = true ∧ raw.getLsbD (16 * r₂.val + c₂.val) = true

/-- A sample arrival brings every position of the configured matrix forward: UNUSED positions stand still, an up position
is held at 0 in an ambiguous sample, an agreement clears the disagreement counter, and the disagreement that reaches the
debounce count flips the position. The sample is processed whole, in this order: the releases of the NORMAL and REPEAT
positions that flipped up, by increasing position, after which rollover falls if no position is marked blocked; the
keylock, whose change offers a KEYLOCK record and, into OFF, stops the typematic timer; the presses; the hand-over of
GHOST, ROLLOVER and KEYLOCK_FAULT to the condition monitor; and COUNTER_FULL, when a counter changed. The ghost status is
the ambiguity of the sample, the keylock follows the positions then down, and the next sample is one period later. The
monitor takes a live state over on an ON lane, and offers a CONDITION record of a change that its report mode covers. KCLKn
and KLATn clock the key chain exactly while the lane is ON. -/
def Obligations.SamplesAreDebounced : Prop :=
  (∀ d : Lane, d.chainClocked = true ↔ d.power.state = .on) ∧
  (∀ (v : LaneView) (c : Condition) (live : Bool) (w : LaneView), w = v.setLives (v.ln.live.set c.idx live) →
    v.handOver c live =
      if v.ln.on = true ∧ v.ln.liveOf c ≠ live then
        if v.ln.modeOf c = .both ∨ (v.ln.modeOf c = .rise ∧ live = true) then w.offer (.condition c live) else w
      else v) ∧
  ∀ (s : State) (l : LaneId) (raw : BitVec 128) (closed : KeyPos → Bool), s.held = false → s.lanes[l].on = true →
    expired s.timeBase s.lanes[l].keys.nextSample = true →
    closed = (fun p =>
      decide (p.val / 16 < s.lanes[l].cfg.rows) && decide (p.val % 16 < s.lanes[l].cfg.cols) &&
        raw.getLsbD p.val) →
    (∃ (cells : Vector KeyCell 128) (flipped : Bool → List KeyPos) (sampled released up keyed pressed ended : LaneView)
        (keylock : Keylock) (fault : Bool),
      (∀ p : KeyPos, cells[p] =
        if s.lanes[l].keymap[p] = .unused then s.lanes[l].keys.cells[p]
        else if ambiguous closed = true ∧ s.lanes[l].keys.cells[p].down = false then
          { s.lanes[l].keys.cells[p] with count := 0 }
        else if closed p = s.lanes[l].keys.cells[p].down then { s.lanes[l].keys.cells[p] with count := 0 }
        else if s.lanes[l].keys.cells[p].count + 1 < s.lanes[l].cfg.debounce then
          { s.lanes[l].keys.cells[p] with count := s.lanes[l].keys.cells[p].count + 1 }
        else { s.lanes[l].keys.cells[p] with down := !s.lanes[l].keys.cells[p].down, count := 0 }) ∧
      (flipped = fun down => (List.finRange 128).filter fun p =>
        decide (s.lanes[l].keymap[p] = .normal ∨ s.lanes[l].keymap[p] = .repeating) &&
          decide (s.lanes[l].keys.cells[p].down ≠ down) && decide (cells[p].down = down)) ∧
      sampled =
        (s.view l).setKeys
          { s.lanes[l].keys with
            cells := cells, ghost := ambiguous closed
            nextSample := some (after s.timeBase s.lanes[l].cfg.period) } ∧
      released = (flipped false).foldl LaneView.releaseKey sampled ∧
      up =
        released.setKeys
          { released.ln.keys with
            rollover :=
              released.ln.keys.rollover && decide (∃ p : KeyPos, released.ln.keys.cells[p].mark = .blocked) } ∧
      (keyed =
        if keylock = up.ln.keys.keylock then up.setKeys { up.ln.keys with keylockFault := fault }
        else
          LaneView.offer
            (up.setKeys
              { up.ln.keys with
                keylock := keylock, keylockFault := fault
                typematic := if keylock = .off then none else up.ln.keys.typematic })
            (.keylock keylock)) ∧
      pressed = (flipped true).foldl LaneView.pressKey keyed ∧
      ended =
        (((pressed.handOver .ghost pressed.ln.keys.ghost).handOver .rollover pressed.ln.keys.rollover).handOver
          .keylockFault pressed.ln.keys.keylockFault) ∧
      (∀ t, exec (.sampleArrival l raw) s = .next t →
        t.lanes[l].keys.keylock = keylock ∧ t.lanes[l].keys.keylockFault = fault) ∧
      exec (.sampleArrival l raw) s = .next
        (s.put l
          (if ended.ln.counters = s.lanes[l].counters then ended
          else ended.handOver .counterFull ended.ln.counters.full))) ∧
    ∃ t, exec (.sampleArrival l raw) s = .next t ∧ s.QuietFrame t l ∧
      (∀ p : KeyPos,
        (t.lanes[l].keys.cells[p].down, t.lanes[l].keys.cells[p].count) =
          if s.lanes[l].keymap[p] = .unused then (s.lanes[l].keys.cells[p].down, s.lanes[l].keys.cells[p].count)
          else if ambiguous closed = true ∧ s.lanes[l].keys.cells[p].down = false then (false, 0)
          else if closed p = s.lanes[l].keys.cells[p].down then (s.lanes[l].keys.cells[p].down, 0)
          else if s.lanes[l].keys.cells[p].count + 1 < s.lanes[l].cfg.debounce then
            (s.lanes[l].keys.cells[p].down, s.lanes[l].keys.cells[p].count + 1)
          else (!s.lanes[l].keys.cells[p].down, 0)) ∧
      t.lanes[l].keys.ghost = ambiguous closed ∧
      t.lanes[l].keys.nextSample = some (after s.timeBase s.lanes[l].cfg.period) ∧
      ((∀ p : KeyPos, ∀ k, s.lanes[l].keymap[p] ≠ .keylock k) →
        t.lanes[l].keys.keylock = .operate ∧ t.lanes[l].keys.keylockFault = false) ∧
      ((∃ p : KeyPos, ∃ k, s.lanes[l].keymap[p] = .keylock k) →
        (∀ p : KeyPos, ∀ k, s.lanes[l].keymap[p] = .keylock k → t.lanes[l].keys.cells[p].down = false) →
        t.lanes[l].keys.keylock = s.lanes[l].keys.keylock ∧ t.lanes[l].keys.keylockFault = false) ∧
      (∀ (p : KeyPos) (k : Keylock), s.lanes[l].keymap[p] = .keylock k → t.lanes[l].keys.cells[p].down = true →
        (∀ q : KeyPos, ∀ j, s.lanes[l].keymap[q] = .keylock j → t.lanes[l].keys.cells[q].down = true → q = p) →
        t.lanes[l].keys.keylock = k ∧ t.lanes[l].keys.keylockFault = false) ∧
      (∀ (p q : KeyPos) (k j : Keylock), p ≠ q → s.lanes[l].keymap[p] = .keylock k →
        s.lanes[l].keymap[q] = .keylock j → t.lanes[l].keys.cells[p].down = true →
        t.lanes[l].keys.cells[q].down = true →
        t.lanes[l].keys.keylock = s.lanes[l].keys.keylock ∧ t.lanes[l].keys.keylockFault = true) ∧
      t.lanes[l].power = s.lanes[l].power ∧ t.lanes[l].cfg = s.lanes[l].cfg ∧
      t.lanes[l].keymap = s.lanes[l].keymap ∧ t.lanes[l].set = s.lanes[l].set ∧
      t.lanes[l].port.rx = s.lanes[l].port.rx ∧ t.lanes[l].port.brk = s.lanes[l].port.brk ∧
      t.lanes[l].queue.held = s.lanes[l].queue.held ∧ t.lanes[l].reportTimer = s.lanes[l].reportTimer ∧
      t.lanes[l].checker = s.lanes[l].checker ∧ t.lanes[l].pins = s.lanes[l].pins

/-- One key. A press is unreported under keylock OFF, blocked when six positions are down, and unreported with an OVERRUN
where the queue refuses its KEY_DOWN; otherwise the record stands, the position joins the down list, the duplicate filter
is cleared, the typematic timer serves a REPEAT position and stops for a NORMAL one, and the release key makes its attempt.
A release of a listed position leaves the list with a KEY_UP, stopping the typematic timer that serves it; of another it
clears the mark. -/
def Obligations.KeysJoinAndLeaveTheDownList : Prop :=
  (∀ (v : LaneView) (p : KeyPos) (marked : KeyMark → Vector KeyCell 128),
    marked = (fun m => v.ln.keys.cells.set p { v.ln.keys.cells[p] with mark := m }) →
    (v.ln.keys.keylock = .off →
      v.pressKey p = v.setKeys { v.ln.keys with cells := marked .unreported }) ∧
    (v.ln.keys.keylock ≠ .off → 6 ≤ v.ln.keys.downList.length →
      v.pressKey p = v.setKeys { v.ln.keys with cells := marked .blocked, rollover := true }) ∧
    (v.ln.keys.keylock ≠ .off → v.ln.keys.downList.length < 6 → 28 ≤ v.ln.count →
      v.pressKey p =
        (v.setKeys { v.ln.keys with cells := marked .unreported }).setCounters
          { v.ln.counters with overrun := bump16 v.ln.counters.overrun }) ∧
    (v.ln.keys.keylock ≠ .off → v.ln.keys.downList.length < 6 → v.ln.count < 28 →
      ∃ w : LaneView,
        v.pressKey p = (if v.ln.cfg.releaseKey = some p then w.localAttempt else w) ∧
        w.now = v.now ∧ w.id = v.id ∧ w.lockdown = v.lockdown ∧ w.alarms = v.alarms ∧ w.free = v.free ∧
        v.ln.Appended w.ln (v.record (.keyDown p v.ln.keys.keylock)) ∧
        Lane.FlowEvaluated
          { v.ln.taking v.id v.now (.keyDown p v.ln.keys.keylock) with
            keys :=
              { v.ln.keys with
                downList := v.ln.keys.downList ++ [p]
                typematic :=
                  if v.ln.keymap[p] = .repeating then some { point := after v.now v.ln.cfg.typDelay, pos := p }
                  else none }
            filter := { last := none, window := none } }
          w.ln v.id v.now)) ∧
  ∀ (v : LaneView) (p : KeyPos),
    (p ∉ v.ln.keys.downList →
      v.releaseKey p =
        v.setKeys { v.ln.keys with cells := v.ln.keys.cells.set p { v.ln.keys.cells[p] with mark := .none } }) ∧
    (p ∈ v.ln.keys.downList →
      Lane.Offered
        { v.ln with
          keys :=
            { v.ln.keys with
              downList := v.ln.keys.downList.erase p
              typematic := if v.ln.keys.typematic.map Typematic.pos = some p then none else v.ln.keys.typematic } }
        (v.releaseKey p).ln v.id v.now (.keyUp p) ∧
      (v.ln.count < 32 → v.ln.Appended (v.releaseKey p).ln (v.record (.keyUp p))) ∧
      (32 ≤ v.ln.count → (v.releaseKey p).ln.queue = { v.ln.queue with loss := bump8 v.ln.queue.loss }))

/-- The typematic timer expires: a KEY_REPEAT of the position it serves is offered, and the timer is set one typematic
period after the expiry just passed, whether the record is taken or refused. -/
def Obligations.TypematicRepeatsTheLastKey : Prop :=
  ∀ (s : State) (l : LaneId) (t : Typematic), s.held = false → s.lanes[l].on = true →
    s.lanes[l].keys.typematic = some t → expired s.timeBase (some t.point) = true →
    ∃ (u : State) (d : Lane), exec (.typematicExpiry l) s = .next u ∧ s.QuietFrame u l ∧
      d =
        { s.lanes[l] with
          keys :=
            { s.lanes[l].keys with
              typematic := some { point := after t.point s.lanes[l].cfg.typPeriod, pos := t.pos } } } ∧
      (s.lanes[l].count < 28 →
        s.lanes[l].Appended u.lanes[l] (s.recordOf l (.keyRepeat t.pos)) ∧
        (d.taking l s.timeBase (.keyRepeat t.pos)).FlowEvaluated u.lanes[l] l s.timeBase) ∧
      (28 ≤ s.lanes[l].count → u.lanes[l] = d ∧ s.SameQueue u l)

/-! ### The drawer sense -/

/-- A sense found open. A first sense enters OPEN with INITIAL; CLOSED enters OPEN with FORCED and its alarm; AWAIT_OPEN
enters OPEN with OPENED, its confirm timer stopped. Entering OPEN sets the open start time and the open-long timer and,
under inhibit-while-open, adds DRAWER with the scanner command that follows. In RELEASING the sense alone changes. At the
level already debounced the stability timer stops and nothing else changes. -/
def Obligations.AnOpenSenseOpensTheDrawer : Prop :=
  ∀ (s : State) (l : LaneId) (point : Time), s.held = false → s.lanes[l].on = true →
    s.lanes[l].drawer.stability = some { point := point, level := .opened } →
    expired s.timeBase (some point) = true →
    (s.lanes[l].drawer.sense = some .opened →
      exec (.senseStabilityExpiry l) s = .next
        (s.withLaneAs l { s.lanes[l] with drawer := { s.lanes[l].drawer with stability := none } })) ∧
    (s.lanes[l].drawer.sense ≠ some .opened →
    (s.lanes[l].drawer.state = .releasing ∨ s.lanes[l].drawer.state = .opened ∨ s.lanes[l].drawer.state = .openLong →
      exec (.senseStabilityExpiry l) s = .next
        (s.withLaneAs l
          { s.lanes[l] with drawer := { s.lanes[l].drawer with stability := none, sense := some .opened } })) ∧
    ∀ event confirm,
      (s.lanes[l].drawer.state = .unsensed ∧ event = .initial ∧ confirm = s.lanes[l].drawer.confirm) ∨
        (s.lanes[l].drawer.state = .closed ∧ event = .forced ∧ confirm = s.lanes[l].drawer.confirm) ∨
        (s.lanes[l].drawer.state = .awaitOpen ∧ event = .opened ∧ confirm = none) →
      ∃ (t : State) (d : Lane), exec (.senseStabilityExpiry l) s = .next t ∧ s.LaneFrame t l ∧ t.poolFree = s.poolFree ∧
        t.alarms =
          (if event = .forced then raiseAlarm s.timeBase .forcedOpen (some l) s.alarms else s.alarms) ∧
        (event = .forced → t.attn = true) ∧
        s.lanes[l].Redirected d
          { s.lanes[l].port.reasons with
            drawer := s.lanes[l].port.reasons.drawer || s.lanes[l].set.inhibitOpen } ∧
        Lane.Offered
          { d with
            drawer :=
              { s.lanes[l].drawer with
                stability := none, sense := some .opened, state := .opened, confirm := confirm
                openStart := some s.timeBase
                openLong := some (after s.timeBase (s.lanes[l].set.openLong * 1000)) } }
          t.lanes[l] l s.timeBase (.drawer event .opened none none none) ∧
        (s.lanes[l].count < 32 →
          s.lanes[l].Appended t.lanes[l] (s.recordOf l (.drawer event .opened none none none))))

/-- A sense found closed. A first sense enters CLOSED with INITIAL. In OPEN and OPEN_LONG it ends the opening: the
open-long timer stops, the CLOSED record carries the time since the open start on the wrapping time base, the start is
forgotten, DRAWER is removed with the scanner command that follows, and out of OPEN_LONG the condition falls. Elsewhere
the sense alone changes. At the level already debounced the stability timer stops and nothing else changes. -/
def Obligations.AClosedSenseClosesTheDrawer : Prop :=
  ∀ (s : State) (l : LaneId) (point : Time), s.held = false → s.lanes[l].on = true →
    s.lanes[l].drawer.stability = some { point := point, level := .closed } →
    expired s.timeBase (some point) = true →
    (s.lanes[l].drawer.sense = some .closed →
      exec (.senseStabilityExpiry l) s = .next
        (s.withLaneAs l { s.lanes[l] with drawer := { s.lanes[l].drawer with stability := none } })) ∧
    (s.lanes[l].drawer.sense ≠ some .closed →
    (s.lanes[l].drawer.state = .releasing ∨ s.lanes[l].drawer.state = .closed ∨ s.lanes[l].drawer.state = .awaitOpen →
      exec (.senseStabilityExpiry l) s = .next
        (s.withLaneAs l
          { s.lanes[l] with drawer := { s.lanes[l].drawer with stability := none, sense := some .closed } })) ∧
    (s.lanes[l].drawer.state = .unsensed →
      ∃ t, exec (.senseStabilityExpiry l) s = .next t ∧ s.QuietFrame t l ∧
        Lane.Offered
          { s.lanes[l] with
            drawer :=
              { s.lanes[l].drawer with
                stability := none, sense := some .closed, state := .closed, openStart := none } }
          t.lanes[l] l s.timeBase (.drawer .initial .closed none none none) ∧
        s.OfferedB t l (.drawer .initial .closed none none none)) ∧
    ∀ start : Time, s.lanes[l].drawer.state = .opened ∨ s.lanes[l].drawer.state = .openLong →
      s.lanes[l].drawer.openStart = some start →
      ∃ (t : State) (recorded enabled : Lane), exec (.senseStabilityExpiry l) s = .next t ∧ s.QuietFrame t l ∧
        Lane.Offered
          { s.lanes[l] with
            drawer :=
              { s.lanes[l].drawer with
                stability := none, sense := some .closed, state := .closed, openLong := none } }
          recorded l s.timeBase (.drawer .closed .closed none none (some (s.timeBase - start))) ∧
        Lane.Redirected { recorded with drawer := { recorded.drawer with openStart := none } } enabled
          { recorded.port.reasons with drawer := false } ∧
        (s.lanes[l].drawer.state = .opened → t.lanes[l] = enabled) ∧
        (s.lanes[l].drawer.state = .openLong → enabled.HandedOver t.lanes[l] l s.timeBase .drawerLong false) ∧
        (∀ c : Condition, c ≠ .drawerLong → c ≠ .scannerHeld → t.lanes[l].liveOf c = s.lanes[l].liveOf c) ∧
        (t.lanes[l].liveOf .drawerLong =
          if s.lanes[l].drawer.state = .openLong then false else s.lanes[l].liveOf .drawerLong) ∧
        (s.lanes[l].count < 32 →
          s.lanes[l].Appended t.lanes[l]
            (s.recordOf l (.drawer .closed .closed none none (some (s.timeBase - start))))))

/-! ### The lane queue and the alarm queue -/

/-- An offered record is taken at the tail while its class has a place (28 or 32) and, if it holds a code, while a slot is
within the quota and free; it then carries the lane's number, sequence number, time and loss count, the sequence number
goes up by one, the loss count returns to 0, its slot moves from the pool to the lane, FLOW is evaluated, and ATTN is
asserted. A change of FLOW acts on the scanner command queue and, on an ON lane, on the live state of SCANNER_HELD; a
CONDITION record that reports it takes the next place and sequence number with nothing lost before it, or, where the queue
is then full, leaves the loss count at 1. Refused, a class A record changes nothing and a class B record raises the loss
count alone. -/
def Obligations.OfferedRecordsAreTakenOrRefused : Prop :=
  ∀ (v : LaneView) (b : RecordBody) (room : Prop) (taken : LaneRecord),
    (room ↔
      if b.classA then
        v.ln.queue.records.length < 28 ∧ (b.slots = 1 → v.ln.queue.held < v.ln.set.quota ∧ 0 < v.free)
      else v.ln.queue.records.length < 32) →
    taken = { lane := v.id, seq := v.ln.queue.seq, time := v.now, lost := v.ln.queue.loss, body := b } →
    (room →
      (∃ more : List LaneRecord,
        (v.offer b).ln.queue.records = v.ln.queue.records ++ taken :: more ∧
        (v.offer b).ln.queue.seq = v.ln.queue.seq + 1 + BitVec.ofNat 16 more.length ∧
        ((v.offer b).ln.queue.loss = 0 ∨
          ((v.offer b).ln.queue.loss = 1 ∧ 32 ≤ (v.offer b).ln.queue.records.length)) ∧
        ∀ (i : Nat) (m : LaneRecord), more[i]? = some m →
          m.lane = v.id ∧ m.seq = v.ln.queue.seq + 1 + BitVec.ofNat 16 i ∧ m.time = v.now ∧ m.lost = 0 ∧
            ∃ live, m.body = .condition .scannerHeld live) ∧
      (v.offer b).ln.queue.held = v.ln.queue.held + b.slots ∧ (v.offer b).free = v.free - b.slots ∧
      (v.offer b).attn = true ∧ v.ln.OfferFrame (v.offer b).ln ∧
      (v.ln.set.InRange → ∀ (flow : Bool) (reported : Prop),
        flow =
          (if v.ln.set.high ≤ v.ln.queue.records.length + 1 ∨ v.ln.set.quota ≤ v.ln.queue.held + b.slots then true
          else if v.ln.queue.records.length + 1 ≤ v.ln.set.low ∧ v.ln.queue.held + b.slots + 2 ≤ v.ln.set.quota then
            false
          else v.ln.port.reasons.flow) →
        (reported ↔
          v.ln.on = true ∧ flow ≠ v.ln.port.reasons.flow ∧ flow ≠ v.ln.liveOf .scannerHeld ∧
            (v.ln.modeOf .scannerHeld = .both ∨ (v.ln.modeOf .scannerHeld = .rise ∧ flow = true))) →
        (v.offer b).ln.port.reasons.flow = flow ∧
        (∃ d, v.ln.Redirected d { v.ln.port.reasons with flow := flow } ∧ (v.offer b).ln.port = d.port) ∧
        ((v.offer b).ln.liveOf .scannerHeld =
          if v.ln.on = true ∧ flow ≠ v.ln.port.reasons.flow then flow else v.ln.liveOf .scannerHeld) ∧
        (¬reported →
          (v.offer b).ln.queue.records = v.ln.queue.records ++ [taken] ∧ (v.offer b).ln.queue.loss = 0) ∧
        (reported → v.ln.queue.records.length + 1 < 32 →
          (v.offer b).ln.queue.records =
            v.ln.queue.records ++
              [taken,
                { lane := v.id, seq := v.ln.queue.seq + 1, time := v.now, lost := 0
                  body := .condition .scannerHeld flow }] ∧
          (v.offer b).ln.queue.loss = 0) ∧
        (reported → 32 ≤ v.ln.queue.records.length + 1 →
          (v.offer b).ln.queue.records = v.ln.queue.records ++ [taken] ∧ (v.offer b).ln.queue.loss = 1))) ∧
    (¬room →
      (b.classA = true → v.offer b = v) ∧
      (b.classA = false →
        v.offer b =
          v.setQueue
            { v.ln.queue with loss := if v.ln.queue.loss < 255 then v.ln.queue.loss + 1 else 255 }))

/-- An alarm merges into the record of its kind and lane, whose place, first time and other fields stay while the last
time becomes now and the repeat count goes up by one, stopping at 255; without such a record a new one joins the tail.
Every step keeps the alarm queue free of two records of one kind and lane, so that it never holds more than 25 (R149).
-/
def Obligations.AlarmsMergeAndStayMerged : Prop :=
  (∀ (now : Time) (kind : AlarmKind) (lane : Option LaneId) (alarms : List Alarm),
    ((∀ a ∈ alarms, ¬(a.kind = kind ∧ a.lane = lane)) →
      raiseAlarm now kind lane alarms =
        alarms ++ [{ kind := kind, lane := lane, first := now, last := now, repeats := 1 }]) ∧
    ∀ before a rest, alarms = before ++ a :: rest → a.kind = kind → a.lane = lane →
      (∀ x ∈ before, ¬(x.kind = kind ∧ x.lane = lane)) →
      raiseAlarm now kind lane alarms =
        before ++
          { a with last := now, repeats := if a.repeats < 255 then a.repeats + 1 else 255 } :: rest) ∧
  (∀ s t : State, s.AlarmLaw → step s = .next t → t.AlarmLaw)

/-! ### The host link receiver -/

/-- The bytes of a request frame, one after the other on a part that is not held, leave exactly the part that has taken
the request they spell, with the receiver back in HUNT. Every request row of the table is the request its kind byte and its
payload bytes spell, in the layouts of R190: two rows to one kind where a field chooses between them, and bytes that the
part does not examine of any value. That a request row of the table is the request at this moment is the model's choice
(Log 19). -/
def Obligations.AFrameOnTheLineIsItsRequest : Prop :=
  (∀ (s : State) (kind tag : Byte) (payload : List Byte) (rest : List Instr), s.held = false →
    s.link.rx = HostRx.reset → payload.length ≤ 1028 →
    s.pending = ((hostFrame kind tag payload).map fun b => Instr.hostByteArrival b false) ++ rest →
    Sys2Proof.core.run (payload.length + 7) s =
      .next (State.takeRequest { s with pending := rest } kind tag (parseRequest kind payload))) ∧
  (∀ (w : BitVec 16) (x : BitVec 32),
    bytes16 w = [BitVec.ofNat 8 w.toNat, BitVec.ofNat 8 (w.toNat / 256)] ∧
    bytes32 x =
      [BitVec.ofNat 8 x.toNat, BitVec.ofNat 8 (x.toNat / 256), BitVec.ofNat 8 (x.toNat / 65536),
        BitVec.ofNat 8 (x.toNat / 16777216)]) ∧
  ∀ (s : State) (tag lane a b c d : Byte) (f : LaneCfgFields) (g : LaneSetFields) (h : RuleFields)
    (pad18 pad28 : List Byte) (taken : Byte → List Byte → Host.Outcome State Fault Refusal),
    pad18.length = 18 → pad28.length = 28 →
    (taken = fun kind payload => .next (s.takeRequest kind tag (parseRequest kind payload))) →
    exec (.ident tag) s = taken 0x01 [] ∧
    exec (.statusLane tag lane) s = taken 0x02 [lane] ∧
    exec (.statusDevice tag) s = taken 0x02 [0xFF] ∧
    exec (.laneCfgRead tag lane) s = taken 0x03 ([lane, 0] ++ pad18) ∧
    exec (.laneCfgWrite tag lane f) s =
      taken 0x03
        ([lane, 1, f.settle, f.rows, f.cols, f.period, f.debounce] ++ bytes16 f.typDelay ++ bytes16 f.typPeriod ++
          [f.releaseKey] ++ bytes32 f.rate ++ [f.gap, f.pulse] ++ bytes16 f.confirm) ∧
    exec (.laneSetRead tag lane) s = taken 0x04 ([lane, 0] ++ pad28) ∧
    exec (.laneSetWrite tag lane g) s =
      taken 0x04
        ([lane, 1, g.confirmTones, g.inhibitOpen, g.strict] ++ bytes32 g.valueLimit ++ bytes16 g.dupWindow ++
          [g.quota, g.high, g.low] ++ bytes16 g.openLong ++ [g.hostMask, g.keyMask, g.consume] ++ g.modes.toList ++
          [g.counterMode, g.interval, g.priority]) ∧
    exec (.keymap tag lane a b c) s = taken 0x05 [lane, a, b, c] ∧
    exec (.rule tag a h) s =
      taken 0x06
        ([a, h.active, h.cls, h.minLen, h.maxLen, h.patLen] ++ h.pattern.toList ++
          [h.check, h.valuePresent, h.start, h.count, h.scale, h.action, h.tag]) ∧
    exec (.ruleQ tag a) s = taken 0x07 [a] ∧
    exec (.powerOff tag lane) s = taken 0x08 [lane, 0] ∧
    exec (.powerOn tag lane) s = taken 0x08 [lane, 1] ∧
    exec (.fetchAny tag a) s = taken 0x09 [0xFF, a] ∧
    exec (.fetchLane tag lane a) s = taken 0x09 [lane, a] ∧
    exec (.release tag lane) s = taken 0x0A [lane] ∧
    exec (.flags tag lane a b) s = taken 0x0B [lane, a, b] ∧
    exec (.inhibitOff tag lane) s = taken 0x0C [lane, 0] ∧
    exec (.inhibitOn tag lane) s = taken 0x0C [lane, 1] ∧
    exec (.tone tag lane a) s = taken 0x0D [lane, a] ∧
    exec (.counts tag lane a) s = taken 0x0E [lane, a] ∧
    exec (.checkStart tag lane a) s = taken 0x0F [lane, 0, a] ∧
    exec (.checkStop tag lane) s = taken 0x0F [lane, 1, d] ∧
    exec (.checkInsert tag lane) s = taken 0x0F [lane, 2, d] ∧
    exec (.unlock tag) s = taken 0x10 [] ∧
    exec (.clrFault tag lane) s = taken 0x11 [lane] ∧
    exec (.restart tag) s = taken 0x12 []

/-- A byte at the host link receiver, state by state: what starts a frame, what each byte becomes, where the CRC is
compared, and the discards, each counted once and leaving HUNT. The gap timer is set by every byte outside HUNT. The CRC
starts at 0xFFFF and takes each byte's bits, most significant first: a bit that differs from the register's top bit adds
0x1021 to the register shifted up by one place, and '1' to '9' give 0x29B1 (R174).
The values of LEN, body and CRC in HUNT
are the model's choice (Log 6). -/
def Obligations.TheHostReceiverFollowsItsTable : Prop :=
  (crcOf [] = 0xFFFF ∧ (∀ xs b, crcOf (xs ++ [b]) = crcByte (crcOf xs) b) ∧
    (∀ (crc : BitVec 16) (b : Byte) (bit : BitVec 16 → Nat → BitVec 16),
      (bit = fun (r : BitVec 16) (i : Nat) => if r.getLsbD 15 = b.getLsbD i then r <<< 1 else (r <<< 1) ^^^ 0x1021) →
        crcByte crc b = bit (bit (bit (bit (bit (bit (bit (bit crc 7) 6) 5) 4) 3) 2) 1) 0) ∧
    crcOf [0x31, 0x32, 0x33, 0x34, 0x35, 0x36, 0x37, 0x38, 0x39] = 0x29B1) ∧
  ∀ (s : State) (b : Byte) (rx : HostRx) (gap : Option Time) (discarded : State), s.held = false → rx = s.link.rx →
    gap = some (s.timeBase + 10) →
    discarded =
      { s with
        link := { s.link with
          rx := HostRx.reset
          errors := if s.link.errors < 65535 then s.link.errors + 1 else 65535 } } →
    (rx.state = .hunt →
      (∀ e, b ≠ 0xC3 ∨ e = true → exec (.hostByteArrival b e) s = .next s) ∧
      (b = 0xC3 → ∃ x, exec (.hostByteArrival b false) s = .next { s with link := { s.link with rx := x } } ∧
        x.state = .lenLow ∧ x.crc = 0xFFFF ∧ x.gap = gap)) ∧
    (rx.state ≠ .hunt → exec (.hostByteArrival b true) s = .next discarded) ∧
    (rx.state = .lenLow → ∃ x, exec (.hostByteArrival b false) s = .next { s with link := { s.link with rx := x } } ∧
      x = { rx with state := .lenHigh, len := x.len, crc := crcByte rx.crc b, gap := gap } ∧ x.len.toNat = b.toNat) ∧
    (rx.state = .lenHigh → ∀ len, len = rx.len.toNat % 256 + 256 * b.toNat →
      (len < 2 ∨ 1030 < len → exec (.hostByteArrival b false) s = .next discarded) ∧
      (2 ≤ len → len ≤ 1030 →
        exec (.hostByteArrival b false) s = .next
          { s with
            link := { s.link with
              rx :=
                { rx with
                  state := .body, len := BitVec.ofNat 16 len, body := [], crc := crcByte rx.crc b, gap := gap } } })) ∧
    (rx.state = .body →
      exec (.hostByteArrival b false) s = .next
        { s with
          link := { s.link with
            rx :=
              { rx with
                state := if rx.body.length + 1 = rx.len.toNat then .crcLow else .body
                body := rx.body ++ [b], crc := crcByte rx.crc b, gap := gap } } }) ∧
    (rx.state = .crcLow →
      exec (.hostByteArrival b false) s = .next
        { s with link := { s.link with rx := { rx with state := .crcHigh, crcLow := b, gap := gap } } }) ∧
    (rx.state = .crcHigh →
      (rx.crc.toNat ≠ rx.crcLow.toNat + 256 * b.toNat → exec (.hostByteArrival b false) s = .next discarded) ∧
      ∀ kind tag payload, rx.body = kind :: tag :: payload → rx.crc.toNat = rx.crcLow.toNat + 256 * b.toNat →
        exec (.hostByteArrival b false) s = .next
          (State.takeRequest { s with link := { s.link with rx := HostRx.reset } } kind tag
            (parseRequest kind payload))) ∧
    (rx.state ≠ .hunt → expired s.timeBase rx.gap = true → exec .hostGapExpiry s = .next discarded)

/-- A request whose kind byte names none is answered UNKNOWN_KIND, one whose payload has another length than its kind's
BAD_LENGTH, and one whose lane byte names no lane BAD_LANE, whatever its other fields; none of them changes anything. One
whose kind and length are right is the request its payload spells. The field values that no row spells are refused with
BAD_FIELD and change nothing: a POWER or INHIBIT value above 1 in every lane state, a LANECFG write above 1 in OFF and
TRIPPED (LANE_ACTIVE elsewhere), a LANESET write above 1, and a CHECK action above 2 in ON (NOT_READY elsewhere); the lane is
checked before them. The kinds are 1 to 18, with the payload lengths of R190,
and the reply codes 0 to 12. -/
def Obligations.KindLengthAndLaneAreCheckedFirst : Prop :=
  ([RequestKind.ident, .status, .laneCfg, .laneSet, .keymap, .rule, .ruleQ, .power, .fetch, .release, .flags, .inhibit,
        .tone, .counts, .check, .unlock, .clrFault, .restart].map (fun k => (k.byte, k.payloadLength)) =
      [(0x01, 0), (0x02, 1), (0x03, 20), (0x04, 30), (0x05, 4), (0x06, 21), (0x07, 1), (0x08, 2), (0x09, 2), (0x0A, 1),
        (0x0B, 3), (0x0C, 2), (0x0D, 2), (0x0E, 2), (0x0F, 3), (0x10, 0), (0x11, 1), (0x12, 0)] ∧
    [ReplyCode.done, .clamped, .unknownKind, .badLength, .badLane, .badField, .laneActive, .notReady, .busy, .denied,
        .lockedDown, .faulted, .stillAsserted].map ReplyCode.byte =
      [0, 1, 2, 3, 4, 5, 6, 7, 8, 9, 10, 11, 12]) ∧
  (∀ (s : State) (kind tag : Byte) (payload : List Byte), s.ready →
    (kind.toNat = 0 ∨ 0x12 < kind.toNat →
      s.takeRequest kind tag (parseRequest kind payload) = s.answered (kind ||| 0x80) tag .unknownKind []) ∧
    (∀ k : RequestKind, kind = k.byte → payload.length ≠ k.payloadLength →
      s.takeRequest kind tag (parseRequest kind payload) =
        s.answered (kind ||| 0x80) tag .badLength (if k = .release then [0] else [])) ∧
    ∀ k : RequestKind, kind = k.byte → payload.length = k.payloadLength →
      s.takeRequest kind tag (parseRequest kind payload) = s.request tag (requestOf k payload)) ∧
  (∀ (s : State) (tag lane value a : Byte) (pad18 pad28 : List Byte) (taken : Byte → List Byte → State), s.ready →
    pad18.length = 18 → pad28.length = 28 →
    (taken = fun kind payload => s.takeRequest kind tag (parseRequest kind payload)) →
    (∀ l : LaneId, lane.toNat = l.val →
      (2 ≤ value.toNat →
        taken 0x08 [lane, value] = s.answered 0x88 tag .badField [] ∧
        taken 0x0C [lane, value] = s.answered 0x8C tag .badField [] ∧
        taken 0x03 ([lane, value] ++ pad18) =
          s.answered 0x83 tag (if s.lanes[l].powered then .laneActive else .badField) [] ∧
        taken 0x04 ([lane, value] ++ pad28) = s.answered 0x84 tag .badField []) ∧
      (3 ≤ value.toNat →
        taken 0x0F [lane, value, a] = s.answered 0x8F tag (if s.lanes[l].on then .badField else .notReady) [])) ∧
    (8 ≤ lane.toNat →
      taken 0x08 [lane, value] = s.answered 0x88 tag .badLane [] ∧
      taken 0x0C [lane, value] = s.answered 0x8C tag .badLane [] ∧
      taken 0x03 ([lane, value] ++ pad18) = s.answered 0x83 tag .badLane [] ∧
      taken 0x04 ([lane, value] ++ pad28) = s.answered 0x84 tag .badLane [] ∧
      taken 0x0F [lane, value, a] = s.answered 0x8F tag .badLane [])) ∧
  ∀ (s : State) (tag lane a b c : Byte) (f : LaneCfgFields) (g : LaneSetFields), s.ready → 8 ≤ lane.toNat →
    exec (.laneCfgRead tag lane) s = .next (s.answered 0x83 tag .badLane []) ∧
    exec (.laneCfgWrite tag lane f) s = .next (s.answered 0x83 tag .badLane []) ∧
    exec (.laneSetRead tag lane) s = .next (s.answered 0x84 tag .badLane []) ∧
    exec (.laneSetWrite tag lane g) s = .next (s.answered 0x84 tag .badLane []) ∧
    exec (.keymap tag lane a b c) s = .next (s.answered 0x85 tag .badLane []) ∧
    exec (.powerOn tag lane) s = .next (s.answered 0x88 tag .badLane []) ∧
    exec (.powerOff tag lane) s = .next (s.answered 0x88 tag .badLane []) ∧
    (lane ≠ 0xFF → exec (.fetchLane tag lane a) s = .next (s.answered 0x89 tag .badLane [])) ∧
    exec (.release tag lane) s = .next (s.answered 0x8A tag .badLane [0]) ∧
    exec (.flags tag lane a b) s = .next (s.answered 0x8B tag .badLane []) ∧
    exec (.inhibitOn tag lane) s = .next (s.answered 0x8C tag .badLane []) ∧
    exec (.inhibitOff tag lane) s = .next (s.answered 0x8C tag .badLane []) ∧
    exec (.tone tag lane a) s = .next (s.answered 0x8D tag .badLane []) ∧
    exec (.counts tag lane a) s = .next (s.answered 0x8E tag .badLane []) ∧
    exec (.checkStart tag lane a) s = .next (s.answered 0x8F tag .badLane []) ∧
    exec (.checkStop tag lane) s = .next (s.answered 0x8F tag .badLane []) ∧
    exec (.checkInsert tag lane) s = .next (s.answered 0x8F tag .badLane []) ∧
    exec (.clrFault tag lane) s = .next (s.answered 0x91 tag .badLane [])

/-! ### Device reset -/

/-- The start of a power-on reset or an assertion of RST puts every piece of the part's state at its device-reset value
and holds the part; the levels outside the part, the rate and the queue of waiting commands stand, and the reset cause
and flag wait for the end of the reset. That RESTART_RESET is a step of its own once no reply is left is the model's
choice (Log 14).
So are the values of registers to
which the spec gives none (Log 6), and the running index of free values is the model's own (Log 7). -/
def Obligations.ResetStartsFromAnyState : Prop :=
  ∀ s : State,
    ∃ r : State,
      (∀ l : LaneId,
        r.lanes[l] =
          { Lane.reset with
            pins := s.lanes[l].pins
            checker := { LineChecker.reset with freeIdx := s.lanes[l].checker.freeIdx } }) ∧
      r =
        { State.reset with
          lanes := r.lanes
          link := { HostLink.reset with rate := s.link.rate }
          resetCause := s.resetCause
          resetFlag := s.resetFlag
          porHold := s.porHold
          rstAsserted := s.rstAsserted
          resetSource := s.resetSource
          lkdPin := s.lkdPin
          pending := s.pending } ∧
      exec .powerOnReset s = .next { r with porHold := true, resetSource := .powerOn } ∧
      exec .rstAssert s = .next { r with rstAsserted := true, resetSource := .rst } ∧
      (s.held = false → s.link.restartPending = true → s.link.replies = [] → s.lkdPin = false →
        exec .restartReset s = .next
          { r with resetSource := .restart, resetCause := .restart, resetFlag := true }) ∧
      (s.held = false → s.link.restartPending = true → s.link.replies = [] → s.lkdPin = true →
        exec .restartReset s = .next
          { r with
            resetSource := .restart, resetCause := .restart, resetFlag := true, lkdLevel := true, lockdown := true
            attn := true, alarms := [{ kind := .lockdown, lane := none, first := 0, last := 0, repeats := 1 }] }) ∧
      (s.held = true ∨ s.link.restartPending = false ∨ s.link.replies ≠ [] → exec .restartReset s = .next s)

/-- The end of a power-on reset and a release of RST sample the straps; when nothing else holds the part, the time base
starts from 0, the cause is recorded with the flag set, and LKD is sampled, an asserted level counting as an assertion
event. The overlap of the two holds, and the cause then, are the model's reading (Log 13). That the end of a power-on reset
that is not going on, and a release of RST that is not asserted, change nothing and sample no strap is deduced (Log 8). -/
def Obligations.ResetEndsWhenNothingHolds : Prop :=
  ∀ (s : State) (rate1 rate0 : Strap) (rate : HostRate) (ended : State → State),
    rate =
      (match rate1, rate0 with
      | .low, .low => .r57600
      | .low, .high => .r115200
      | .high, .low => .r230400
      | .high, .high => .r460800) →
    (∀ l : LaneId, s.lanes[l].drawer.state ≠ .releasing) →
    (ended = fun t =>
      { t with
        link := { t.link with rate := rate }, timeBase := 0, resetCause := t.resetSource, resetFlag := true
        lkdLevel := t.lkdPin, lockdown := t.lockdown || t.lkdPin
        alarms := if t.lkdPin then raiseAlarm 0 .lockdown none t.alarms else t.alarms
        attn := t.attn || t.lkdPin }) →
    (s.porHold = false → exec (.powerOnResetEnd rate1 rate0) s = .next s) ∧
    (s.porHold = true → s.rstAsserted = true →
      exec (.powerOnResetEnd rate1 rate0) s = .next
        { s with porHold := false, link := { s.link with rate := rate } }) ∧
    (s.porHold = true → s.rstAsserted = false →
      exec (.powerOnResetEnd rate1 rate0) s = .next { ended s with porHold := false }) ∧
    (s.rstAsserted = false → exec (.rstRelease rate1 rate0) s = .next s) ∧
    (s.rstAsserted = true → s.porHold = true →
      exec (.rstRelease rate1 rate0) s = .next
        { s with rstAsserted := false, link := { s.link with rate := rate } }) ∧
    (s.rstAsserted = true → s.porHold = false →
      exec (.rstRelease rate1 rate0) s = .next { ended s with rstAsserted := false })

/-! ### Laws that every step keeps -/

/-- The machine right after reset keeps every law and holds the values of device reset. They are the values the rules give,
but for what rests on the model's choices: the lockdown latch clear, the alarm queue empty and ATTN deasserted go with
the level of LKD, which the model has deasserted when the reset ends (Log 5), and the law of the lane states holds with the
values of an idle check's sequence register and of a break detector outside ON (no level seen, its timer stopped) (Log 6). -/
def Obligations.EveryLawHoldsAtReset : Prop :=
  (State.reset.AttnLaw ∧ State.reset.PoolLaw ∧ State.reset.QueueLaw ∧ State.reset.AlarmLaw ∧ State.reset.DrawerLaw ∧
    State.reset.PowerLaw ∧ State.reset.KeyLaw ∧ State.reset.CommandLaw ∧ State.reset.ScanLaw ∧
    State.reset.CounterLaw ∧ State.reset.SettingsLaw ∧ State.reset.LinkLaw) ∧
  (State.reset.timeBase = 0 ∧ State.reset.poolFree = 96 ∧ State.reset.alarms = [] ∧ State.reset.lockdown = false ∧
    State.reset.attn = false ∧ State.reset.resetFlag = true ∧ State.reset.link.replies = [] ∧
    State.reset.link.errors = 0 ∧ State.reset.link.restartPending = false ∧ State.reset.link.rx.state = .hunt ∧
    State.reset.pointers = #v[7, 7, 7, 7, 7] ∧ ∀ i : RuleIdx, State.reset.rules[i].active = false) ∧
  ∀ (l : LaneId) (d : Lane), d = State.reset.lanes[l] →
    d.power = { state := .off, progress := none, start := none, timer := none, pen := false } ∧
    d.queue = { records := [], seq := 0, loss := 0, held := 0 } ∧ d.drawer.state = .unsensed ∧ d.drawer.drv = false ∧
    d.drawer.fault = false ∧ d.drawer.flags = 0 ∧ d.keys.keylock = .off ∧ d.keys.downList = [] ∧
    d.port.rx.state = .idle ∧ d.port.lineState = none ∧ d.filter.last = none ∧ d.checker.state = .idle ∧
    d.counters = { good := 0, checkFail := 0, rejected := 0, duplicate := 0, overrun := 0, frameErr := 0 } ∧
    d.cfg =
      { settle := 4, rows := 8, cols := 16, period := 5, debounce := 3, typDelay := 500, typPeriod := 100
        releaseKey := none, rate := 9600, gap := 20, pulse := 50, confirm := 500 } ∧
    d.set =
      { confirmTones := false, inhibitOpen := false, strict := false, valueLimit := 999999, dupWindow := 500
        quota := 12, high := 24, low := 16, openLong := 60, hostMask := 0, keyMask := 2, consume := 0
        modes := #v[.rise, .rise, .rise, .rise, .rise, .rise, .rise, .rise], counterMode := .manual, interval := 60
        priority := 1 } ∧
    (∀ p : KeyPos, d.keymap[p] = .normal) ∧ ∀ c : Condition, d.liveOf c = false

/-- ATTN is asserted exactly while some record waits, and every step keeps it so (R160). -/
def Obligations.AttnFollowsTheWaitingRecords : Prop := ∀ s t : State, s.AttnLaw → step s = .next t → t.AttnLaw

/-- No step loses or duplicates a code slot: the pool's free count and the queues' SCAN and REJECT records make 96, and each
lane's held slot count is the number of its own (R97). -/
def Obligations.CodeSlotsAreConserved : Prop := ∀ s t : State, s.PoolLaw → step s = .next t → t.PoolLaw

/-- Every step keeps the law of the lane queues: at most 32 records, class A in the first 28 places alone, consecutive
sequence numbers up to the counter, and loss counts of one byte (R85, R89, R91). -/
def Obligations.LaneQueuesStayInOrder : Prop := ∀ s t : State, s.QueueLaw → step s = .next t → t.QueueLaw

/-- DRVn is energized only in RELEASING, and RELEASING stands only in an ON lane with the lockdown latch and the
driver-fault latch clear; every step keeps it so (R113, R116, R117, R119, R127). -/
def Obligations.TheSolenoidIsGuarded : Prop := ∀ s t : State, s.DrawerLaw → step s = .next t → t.DrawerLaw

/-- Every step keeps the table of the lane states: PENn, the settle timer, the progress, and working blocks at their reset
values outside ON (R1, R9).
The values of an idle check's sequence register and of a break detector outside ON (no level seen, its timer stopped) are
the model's choice (Log 6). -/
def Obligations.LaneStatesKeepTheirTable : Prop := ∀ s t : State, s.PowerLaw → step s = .next t → t.PowerLaw

/-- Every step keeps the laws of the keyboard: at most six positions down, each once and each a key held down, every other
key held down marked, rollover exactly while a position is blocked, and the typematic timer serving the newest (R26, R27,
R30, R33). -/
def Obligations.KeyboardsKeepTheirLaws : Prop := ∀ s t : State, s.KeyLaw → step s = .next t → t.KeyLaw

/-- Every step keeps the rule table valid, the receive assemblies in order and every SCAN record sound: 1 to 48 characters
of its class, and under MOD10 a code and a lookup key that satisfy the check (R63, R71, R73, R87). -/
def Obligations.ScannedCodesAreSound : Prop := ∀ s t : State, s.ScanLaw → step s = .next t → t.ScanLaw

/-- Every step keeps the settings in their ranges, the counters within 16 bits, and the host link within its two reply
buffers with its receiver in order (R21, R75, R139, R175, R178). Every step keeps the scanner command queues within four
entries, with at most one 'E' or 'D' waiting (R53, R55). -/
def Obligations.SettingsCountersLinkAndCommandsStayInRange : Prop :=
  ((∀ s t : State, s.SettingsLaw → step s = .next t → t.SettingsLaw) ∧
  (∀ s t : State, s.CounterLaw → step s = .next t → t.CounterLaw) ∧
  ∀ s t : State, s.LinkLaw → step s = .next t → t.LinkLaw) ∧
  (∀ s t : State, s.CommandLaw → step s = .next t → t.CommandLaw)
end

