-- ==== Sys2Proof/Laws/State.lean ====
section
/-!
SUPPORT. What each update leaves in each field, true by definition: the setters of a lane's view, and the updates of the
whole state.
-/

namespace Sys2Proof.Machine

/-! ### setPower -/

section

variable (v : LaneView) (x : PowerCtl)

@[simp] theorem LaneView.setPower_now : (v.setPower x).now = v.now := rfl
@[simp] theorem LaneView.setPower_id : (v.setPower x).id = v.id := rfl
@[simp] theorem LaneView.setPower_lockdown : (v.setPower x).lockdown = v.lockdown := rfl
@[simp] theorem LaneView.setPower_free : (v.setPower x).free = v.free := rfl
@[simp] theorem LaneView.setPower_alarms : (v.setPower x).alarms = v.alarms := rfl
@[simp] theorem LaneView.setPower_attn : (v.setPower x).attn = v.attn := rfl
@[simp] theorem LaneView.setPower_ln_power : (v.setPower x).ln.power = x := rfl
@[simp] theorem LaneView.setPower_ln_cfg : (v.setPower x).ln.cfg = v.ln.cfg := rfl
@[simp] theorem LaneView.setPower_ln_keymap : (v.setPower x).ln.keymap = v.ln.keymap := rfl
@[simp] theorem LaneView.setPower_ln_set : (v.setPower x).ln.set = v.ln.set := rfl
@[simp] theorem LaneView.setPower_ln_keys : (v.setPower x).ln.keys = v.ln.keys := rfl
@[simp] theorem LaneView.setPower_ln_port : (v.setPower x).ln.port = v.ln.port := rfl
@[simp] theorem LaneView.setPower_ln_filter : (v.setPower x).ln.filter = v.ln.filter := rfl
@[simp] theorem LaneView.setPower_ln_queue : (v.setPower x).ln.queue = v.ln.queue := rfl
@[simp] theorem LaneView.setPower_ln_drawer : (v.setPower x).ln.drawer = v.ln.drawer := rfl
@[simp] theorem LaneView.setPower_ln_live : (v.setPower x).ln.live = v.ln.live := rfl
@[simp] theorem LaneView.setPower_ln_counters : (v.setPower x).ln.counters = v.ln.counters := rfl
@[simp] theorem LaneView.setPower_ln_reportTimer : (v.setPower x).ln.reportTimer = v.ln.reportTimer := rfl
@[simp] theorem LaneView.setPower_ln_checker : (v.setPower x).ln.checker = v.ln.checker := rfl
@[simp] theorem LaneView.setPower_ln_pins : (v.setPower x).ln.pins = v.ln.pins := rfl

end

/-! ### setKeys -/

section

variable (v : LaneView) (x : KeyScanner)

@[simp] theorem LaneView.setKeys_now : (v.setKeys x).now = v.now := rfl
@[simp] theorem LaneView.setKeys_id : (v.setKeys x).id = v.id := rfl
@[simp] theorem LaneView.setKeys_lockdown : (v.setKeys x).lockdown = v.lockdown := rfl
@[simp] theorem LaneView.setKeys_free : (v.setKeys x).free = v.free := rfl
@[simp] theorem LaneView.setKeys_alarms : (v.setKeys x).alarms = v.alarms := rfl
@[simp] theorem LaneView.setKeys_attn : (v.setKeys x).attn = v.attn := rfl
@[simp] theorem LaneView.setKeys_ln_power : (v.setKeys x).ln.power = v.ln.power := rfl
@[simp] theorem LaneView.setKeys_ln_cfg : (v.setKeys x).ln.cfg = v.ln.cfg := rfl
@[simp] theorem LaneView.setKeys_ln_keymap : (v.setKeys x).ln.keymap = v.ln.keymap := rfl
@[simp] theorem LaneView.setKeys_ln_set : (v.setKeys x).ln.set = v.ln.set := rfl
@[simp] theorem LaneView.setKeys_ln_keys : (v.setKeys x).ln.keys = x := rfl
@[simp] theorem LaneView.setKeys_ln_port : (v.setKeys x).ln.port = v.ln.port := rfl
@[simp] theorem LaneView.setKeys_ln_filter : (v.setKeys x).ln.filter = v.ln.filter := rfl
@[simp] theorem LaneView.setKeys_ln_queue : (v.setKeys x).ln.queue = v.ln.queue := rfl
@[simp] theorem LaneView.setKeys_ln_drawer : (v.setKeys x).ln.drawer = v.ln.drawer := rfl
@[simp] theorem LaneView.setKeys_ln_live : (v.setKeys x).ln.live = v.ln.live := rfl
@[simp] theorem LaneView.setKeys_ln_counters : (v.setKeys x).ln.counters = v.ln.counters := rfl
@[simp] theorem LaneView.setKeys_ln_reportTimer : (v.setKeys x).ln.reportTimer = v.ln.reportTimer := rfl
@[simp] theorem LaneView.setKeys_ln_checker : (v.setKeys x).ln.checker = v.ln.checker := rfl
@[simp] theorem LaneView.setKeys_ln_pins : (v.setKeys x).ln.pins = v.ln.pins := rfl

end

/-! ### setPort -/

section

variable (v : LaneView) (x : ScannerPort)

@[simp] theorem LaneView.setPort_now : (v.setPort x).now = v.now := rfl
@[simp] theorem LaneView.setPort_id : (v.setPort x).id = v.id := rfl
@[simp] theorem LaneView.setPort_lockdown : (v.setPort x).lockdown = v.lockdown := rfl
@[simp] theorem LaneView.setPort_free : (v.setPort x).free = v.free := rfl
@[simp] theorem LaneView.setPort_alarms : (v.setPort x).alarms = v.alarms := rfl
@[simp] theorem LaneView.setPort_attn : (v.setPort x).attn = v.attn := rfl
@[simp] theorem LaneView.setPort_ln_power : (v.setPort x).ln.power = v.ln.power := rfl
@[simp] theorem LaneView.setPort_ln_cfg : (v.setPort x).ln.cfg = v.ln.cfg := rfl
@[simp] theorem LaneView.setPort_ln_keymap : (v.setPort x).ln.keymap = v.ln.keymap := rfl
@[simp] theorem LaneView.setPort_ln_set : (v.setPort x).ln.set = v.ln.set := rfl
@[simp] theorem LaneView.setPort_ln_keys : (v.setPort x).ln.keys = v.ln.keys := rfl
@[simp] theorem LaneView.setPort_ln_port : (v.setPort x).ln.port = x := rfl
@[simp] theorem LaneView.setPort_ln_filter : (v.setPort x).ln.filter = v.ln.filter := rfl
@[simp] theorem LaneView.setPort_ln_queue : (v.setPort x).ln.queue = v.ln.queue := rfl
@[simp] theorem LaneView.setPort_ln_drawer : (v.setPort x).ln.drawer = v.ln.drawer := rfl
@[simp] theorem LaneView.setPort_ln_live : (v.setPort x).ln.live = v.ln.live := rfl
@[simp] theorem LaneView.setPort_ln_counters : (v.setPort x).ln.counters = v.ln.counters := rfl
@[simp] theorem LaneView.setPort_ln_reportTimer : (v.setPort x).ln.reportTimer = v.ln.reportTimer := rfl
@[simp] theorem LaneView.setPort_ln_checker : (v.setPort x).ln.checker = v.ln.checker := rfl
@[simp] theorem LaneView.setPort_ln_pins : (v.setPort x).ln.pins = v.ln.pins := rfl

end

/-! ### setFilter -/

section

variable (v : LaneView) (x : DupFilter)

@[simp] theorem LaneView.setFilter_now : (v.setFilter x).now = v.now := rfl
@[simp] theorem LaneView.setFilter_id : (v.setFilter x).id = v.id := rfl
@[simp] theorem LaneView.setFilter_lockdown : (v.setFilter x).lockdown = v.lockdown := rfl
@[simp] theorem LaneView.setFilter_free : (v.setFilter x).free = v.free := rfl
@[simp] theorem LaneView.setFilter_alarms : (v.setFilter x).alarms = v.alarms := rfl
@[simp] theorem LaneView.setFilter_attn : (v.setFilter x).attn = v.attn := rfl
@[simp] theorem LaneView.setFilter_ln_power : (v.setFilter x).ln.power = v.ln.power := rfl
@[simp] theorem LaneView.setFilter_ln_cfg : (v.setFilter x).ln.cfg = v.ln.cfg := rfl
@[simp] theorem LaneView.setFilter_ln_keymap : (v.setFilter x).ln.keymap = v.ln.keymap := rfl
@[simp] theorem LaneView.setFilter_ln_set : (v.setFilter x).ln.set = v.ln.set := rfl
@[simp] theorem LaneView.setFilter_ln_keys : (v.setFilter x).ln.keys = v.ln.keys := rfl
@[simp] theorem LaneView.setFilter_ln_port : (v.setFilter x).ln.port = v.ln.port := rfl
@[simp] theorem LaneView.setFilter_ln_filter : (v.setFilter x).ln.filter = x := rfl
@[simp] theorem LaneView.setFilter_ln_queue : (v.setFilter x).ln.queue = v.ln.queue := rfl
@[simp] theorem LaneView.setFilter_ln_drawer : (v.setFilter x).ln.drawer = v.ln.drawer := rfl
@[simp] theorem LaneView.setFilter_ln_live : (v.setFilter x).ln.live = v.ln.live := rfl
@[simp] theorem LaneView.setFilter_ln_counters : (v.setFilter x).ln.counters = v.ln.counters := rfl
@[simp] theorem LaneView.setFilter_ln_reportTimer : (v.setFilter x).ln.reportTimer = v.ln.reportTimer := rfl
@[simp] theorem LaneView.setFilter_ln_checker : (v.setFilter x).ln.checker = v.ln.checker := rfl
@[simp] theorem LaneView.setFilter_ln_pins : (v.setFilter x).ln.pins = v.ln.pins := rfl

end

/-! ### setQueue -/

section

variable (v : LaneView) (x : LaneQueue)

@[simp] theorem LaneView.setQueue_now : (v.setQueue x).now = v.now := rfl
@[simp] theorem LaneView.setQueue_id : (v.setQueue x).id = v.id := rfl
@[simp] theorem LaneView.setQueue_lockdown : (v.setQueue x).lockdown = v.lockdown := rfl
@[simp] theorem LaneView.setQueue_free : (v.setQueue x).free = v.free := rfl
@[simp] theorem LaneView.setQueue_alarms : (v.setQueue x).alarms = v.alarms := rfl
@[simp] theorem LaneView.setQueue_attn : (v.setQueue x).attn = v.attn := rfl
@[simp] theorem LaneView.setQueue_ln_power : (v.setQueue x).ln.power = v.ln.power := rfl
@[simp] theorem LaneView.setQueue_ln_cfg : (v.setQueue x).ln.cfg = v.ln.cfg := rfl
@[simp] theorem LaneView.setQueue_ln_keymap : (v.setQueue x).ln.keymap = v.ln.keymap := rfl
@[simp] theorem LaneView.setQueue_ln_set : (v.setQueue x).ln.set = v.ln.set := rfl
@[simp] theorem LaneView.setQueue_ln_keys : (v.setQueue x).ln.keys = v.ln.keys := rfl
@[simp] theorem LaneView.setQueue_ln_port : (v.setQueue x).ln.port = v.ln.port := rfl
@[simp] theorem LaneView.setQueue_ln_filter : (v.setQueue x).ln.filter = v.ln.filter := rfl
@[simp] theorem LaneView.setQueue_ln_queue : (v.setQueue x).ln.queue = x := rfl
@[simp] theorem LaneView.setQueue_ln_drawer : (v.setQueue x).ln.drawer = v.ln.drawer := rfl
@[simp] theorem LaneView.setQueue_ln_live : (v.setQueue x).ln.live = v.ln.live := rfl
@[simp] theorem LaneView.setQueue_ln_counters : (v.setQueue x).ln.counters = v.ln.counters := rfl
@[simp] theorem LaneView.setQueue_ln_reportTimer : (v.setQueue x).ln.reportTimer = v.ln.reportTimer := rfl
@[simp] theorem LaneView.setQueue_ln_checker : (v.setQueue x).ln.checker = v.ln.checker := rfl
@[simp] theorem LaneView.setQueue_ln_pins : (v.setQueue x).ln.pins = v.ln.pins := rfl

end

/-! ### setDrawer -/

section

variable (v : LaneView) (x : Drawer)

@[simp] theorem LaneView.setDrawer_now : (v.setDrawer x).now = v.now := rfl
@[simp] theorem LaneView.setDrawer_id : (v.setDrawer x).id = v.id := rfl
@[simp] theorem LaneView.setDrawer_lockdown : (v.setDrawer x).lockdown = v.lockdown := rfl
@[simp] theorem LaneView.setDrawer_free : (v.setDrawer x).free = v.free := rfl
@[simp] theorem LaneView.setDrawer_alarms : (v.setDrawer x).alarms = v.alarms := rfl
@[simp] theorem LaneView.setDrawer_attn : (v.setDrawer x).attn = v.attn := rfl
@[simp] theorem LaneView.setDrawer_ln_power : (v.setDrawer x).ln.power = v.ln.power := rfl
@[simp] theorem LaneView.setDrawer_ln_cfg : (v.setDrawer x).ln.cfg = v.ln.cfg := rfl
@[simp] theorem LaneView.setDrawer_ln_keymap : (v.setDrawer x).ln.keymap = v.ln.keymap := rfl
@[simp] theorem LaneView.setDrawer_ln_set : (v.setDrawer x).ln.set = v.ln.set := rfl
@[simp] theorem LaneView.setDrawer_ln_keys : (v.setDrawer x).ln.keys = v.ln.keys := rfl
@[simp] theorem LaneView.setDrawer_ln_port : (v.setDrawer x).ln.port = v.ln.port := rfl
@[simp] theorem LaneView.setDrawer_ln_filter : (v.setDrawer x).ln.filter = v.ln.filter := rfl
@[simp] theorem LaneView.setDrawer_ln_queue : (v.setDrawer x).ln.queue = v.ln.queue := rfl
@[simp] theorem LaneView.setDrawer_ln_drawer : (v.setDrawer x).ln.drawer = x := rfl
@[simp] theorem LaneView.setDrawer_ln_live : (v.setDrawer x).ln.live = v.ln.live := rfl
@[simp] theorem LaneView.setDrawer_ln_counters : (v.setDrawer x).ln.counters = v.ln.counters := rfl
@[simp] theorem LaneView.setDrawer_ln_reportTimer : (v.setDrawer x).ln.reportTimer = v.ln.reportTimer := rfl
@[simp] theorem LaneView.setDrawer_ln_checker : (v.setDrawer x).ln.checker = v.ln.checker := rfl
@[simp] theorem LaneView.setDrawer_ln_pins : (v.setDrawer x).ln.pins = v.ln.pins := rfl

end

/-! ### setLives -/

section

variable (v : LaneView) (x : Vector Bool 8)

@[simp] theorem LaneView.setLives_now : (v.setLives x).now = v.now := rfl
@[simp] theorem LaneView.setLives_id : (v.setLives x).id = v.id := rfl
@[simp] theorem LaneView.setLives_lockdown : (v.setLives x).lockdown = v.lockdown := rfl
@[simp] theorem LaneView.setLives_free : (v.setLives x).free = v.free := rfl
@[simp] theorem LaneView.setLives_alarms : (v.setLives x).alarms = v.alarms := rfl
@[simp] theorem LaneView.setLives_attn : (v.setLives x).attn = v.attn := rfl
@[simp] theorem LaneView.setLives_ln_power : (v.setLives x).ln.power = v.ln.power := rfl
@[simp] theorem LaneView.setLives_ln_cfg : (v.setLives x).ln.cfg = v.ln.cfg := rfl
@[simp] theorem LaneView.setLives_ln_keymap : (v.setLives x).ln.keymap = v.ln.keymap := rfl
@[simp] theorem LaneView.setLives_ln_set : (v.setLives x).ln.set = v.ln.set := rfl
@[simp] theorem LaneView.setLives_ln_keys : (v.setLives x).ln.keys = v.ln.keys := rfl
@[simp] theorem LaneView.setLives_ln_port : (v.setLives x).ln.port = v.ln.port := rfl
@[simp] theorem LaneView.setLives_ln_filter : (v.setLives x).ln.filter = v.ln.filter := rfl
@[simp] theorem LaneView.setLives_ln_queue : (v.setLives x).ln.queue = v.ln.queue := rfl
@[simp] theorem LaneView.setLives_ln_drawer : (v.setLives x).ln.drawer = v.ln.drawer := rfl
@[simp] theorem LaneView.setLives_ln_live : (v.setLives x).ln.live = x := rfl
@[simp] theorem LaneView.setLives_ln_counters : (v.setLives x).ln.counters = v.ln.counters := rfl
@[simp] theorem LaneView.setLives_ln_reportTimer : (v.setLives x).ln.reportTimer = v.ln.reportTimer := rfl
@[simp] theorem LaneView.setLives_ln_checker : (v.setLives x).ln.checker = v.ln.checker := rfl
@[simp] theorem LaneView.setLives_ln_pins : (v.setLives x).ln.pins = v.ln.pins := rfl

end

/-! ### setCounters -/

section

variable (v : LaneView) (x : Counters)

@[simp] theorem LaneView.setCounters_now : (v.setCounters x).now = v.now := rfl
@[simp] theorem LaneView.setCounters_id : (v.setCounters x).id = v.id := rfl
@[simp] theorem LaneView.setCounters_lockdown : (v.setCounters x).lockdown = v.lockdown := rfl
@[simp] theorem LaneView.setCounters_free : (v.setCounters x).free = v.free := rfl
@[simp] theorem LaneView.setCounters_alarms : (v.setCounters x).alarms = v.alarms := rfl
@[simp] theorem LaneView.setCounters_attn : (v.setCounters x).attn = v.attn := rfl
@[simp] theorem LaneView.setCounters_ln_power : (v.setCounters x).ln.power = v.ln.power := rfl
@[simp] theorem LaneView.setCounters_ln_cfg : (v.setCounters x).ln.cfg = v.ln.cfg := rfl
@[simp] theorem LaneView.setCounters_ln_keymap : (v.setCounters x).ln.keymap = v.ln.keymap := rfl
@[simp] theorem LaneView.setCounters_ln_set : (v.setCounters x).ln.set = v.ln.set := rfl
@[simp] theorem LaneView.setCounters_ln_keys : (v.setCounters x).ln.keys = v.ln.keys := rfl
@[simp] theorem LaneView.setCounters_ln_port : (v.setCounters x).ln.port = v.ln.port := rfl
@[simp] theorem LaneView.setCounters_ln_filter : (v.setCounters x).ln.filter = v.ln.filter := rfl
@[simp] theorem LaneView.setCounters_ln_queue : (v.setCounters x).ln.queue = v.ln.queue := rfl
@[simp] theorem LaneView.setCounters_ln_drawer : (v.setCounters x).ln.drawer = v.ln.drawer := rfl
@[simp] theorem LaneView.setCounters_ln_live : (v.setCounters x).ln.live = v.ln.live := rfl
@[simp] theorem LaneView.setCounters_ln_counters : (v.setCounters x).ln.counters = x := rfl
@[simp] theorem LaneView.setCounters_ln_reportTimer : (v.setCounters x).ln.reportTimer = v.ln.reportTimer := rfl
@[simp] theorem LaneView.setCounters_ln_checker : (v.setCounters x).ln.checker = v.ln.checker := rfl
@[simp] theorem LaneView.setCounters_ln_pins : (v.setCounters x).ln.pins = v.ln.pins := rfl

end

/-! ### setReport -/

section

variable (v : LaneView) (x : Option Time)

@[simp] theorem LaneView.setReport_now : (v.setReport x).now = v.now := rfl
@[simp] theorem LaneView.setReport_id : (v.setReport x).id = v.id := rfl
@[simp] theorem LaneView.setReport_lockdown : (v.setReport x).lockdown = v.lockdown := rfl
@[simp] theorem LaneView.setReport_free : (v.setReport x).free = v.free := rfl
@[simp] theorem LaneView.setReport_alarms : (v.setReport x).alarms = v.alarms := rfl
@[simp] theorem LaneView.setReport_attn : (v.setReport x).attn = v.attn := rfl
@[simp] theorem LaneView.setReport_ln_power : (v.setReport x).ln.power = v.ln.power := rfl
@[simp] theorem LaneView.setReport_ln_cfg : (v.setReport x).ln.cfg = v.ln.cfg := rfl
@[simp] theorem LaneView.setReport_ln_keymap : (v.setReport x).ln.keymap = v.ln.keymap := rfl
@[simp] theorem LaneView.setReport_ln_set : (v.setReport x).ln.set = v.ln.set := rfl
@[simp] theorem LaneView.setReport_ln_keys : (v.setReport x).ln.keys = v.ln.keys := rfl
@[simp] theorem LaneView.setReport_ln_port : (v.setReport x).ln.port = v.ln.port := rfl
@[simp] theorem LaneView.setReport_ln_filter : (v.setReport x).ln.filter = v.ln.filter := rfl
@[simp] theorem LaneView.setReport_ln_queue : (v.setReport x).ln.queue = v.ln.queue := rfl
@[simp] theorem LaneView.setReport_ln_drawer : (v.setReport x).ln.drawer = v.ln.drawer := rfl
@[simp] theorem LaneView.setReport_ln_live : (v.setReport x).ln.live = v.ln.live := rfl
@[simp] theorem LaneView.setReport_ln_counters : (v.setReport x).ln.counters = v.ln.counters := rfl
@[simp] theorem LaneView.setReport_ln_reportTimer : (v.setReport x).ln.reportTimer = x := rfl
@[simp] theorem LaneView.setReport_ln_checker : (v.setReport x).ln.checker = v.ln.checker := rfl
@[simp] theorem LaneView.setReport_ln_pins : (v.setReport x).ln.pins = v.ln.pins := rfl

end

/-! ### setChecker -/

section

variable (v : LaneView) (x : LineChecker)

@[simp] theorem LaneView.setChecker_now : (v.setChecker x).now = v.now := rfl
@[simp] theorem LaneView.setChecker_id : (v.setChecker x).id = v.id := rfl
@[simp] theorem LaneView.setChecker_lockdown : (v.setChecker x).lockdown = v.lockdown := rfl
@[simp] theorem LaneView.setChecker_free : (v.setChecker x).free = v.free := rfl
@[simp] theorem LaneView.setChecker_alarms : (v.setChecker x).alarms = v.alarms := rfl
@[simp] theorem LaneView.setChecker_attn : (v.setChecker x).attn = v.attn := rfl
@[simp] theorem LaneView.setChecker_ln_power : (v.setChecker x).ln.power = v.ln.power := rfl
@[simp] theorem LaneView.setChecker_ln_cfg : (v.setChecker x).ln.cfg = v.ln.cfg := rfl
@[simp] theorem LaneView.setChecker_ln_keymap : (v.setChecker x).ln.keymap = v.ln.keymap := rfl
@[simp] theorem LaneView.setChecker_ln_set : (v.setChecker x).ln.set = v.ln.set := rfl
@[simp] theorem LaneView.setChecker_ln_keys : (v.setChecker x).ln.keys = v.ln.keys := rfl
@[simp] theorem LaneView.setChecker_ln_port : (v.setChecker x).ln.port = v.ln.port := rfl
@[simp] theorem LaneView.setChecker_ln_filter : (v.setChecker x).ln.filter = v.ln.filter := rfl
@[simp] theorem LaneView.setChecker_ln_queue : (v.setChecker x).ln.queue = v.ln.queue := rfl
@[simp] theorem LaneView.setChecker_ln_drawer : (v.setChecker x).ln.drawer = v.ln.drawer := rfl
@[simp] theorem LaneView.setChecker_ln_live : (v.setChecker x).ln.live = v.ln.live := rfl
@[simp] theorem LaneView.setChecker_ln_counters : (v.setChecker x).ln.counters = v.ln.counters := rfl
@[simp] theorem LaneView.setChecker_ln_reportTimer : (v.setChecker x).ln.reportTimer = v.ln.reportTimer := rfl
@[simp] theorem LaneView.setChecker_ln_checker : (v.setChecker x).ln.checker = x := rfl
@[simp] theorem LaneView.setChecker_ln_pins : (v.setChecker x).ln.pins = v.ln.pins := rfl

end

/-! ### setPins -/

section

variable (v : LaneView) (x : LanePins)

@[simp] theorem LaneView.setPins_now : (v.setPins x).now = v.now := rfl
@[simp] theorem LaneView.setPins_id : (v.setPins x).id = v.id := rfl
@[simp] theorem LaneView.setPins_lockdown : (v.setPins x).lockdown = v.lockdown := rfl
@[simp] theorem LaneView.setPins_free : (v.setPins x).free = v.free := rfl
@[simp] theorem LaneView.setPins_alarms : (v.setPins x).alarms = v.alarms := rfl
@[simp] theorem LaneView.setPins_attn : (v.setPins x).attn = v.attn := rfl
@[simp] theorem LaneView.setPins_ln_power : (v.setPins x).ln.power = v.ln.power := rfl
@[simp] theorem LaneView.setPins_ln_cfg : (v.setPins x).ln.cfg = v.ln.cfg := rfl
@[simp] theorem LaneView.setPins_ln_keymap : (v.setPins x).ln.keymap = v.ln.keymap := rfl
@[simp] theorem LaneView.setPins_ln_set : (v.setPins x).ln.set = v.ln.set := rfl
@[simp] theorem LaneView.setPins_ln_keys : (v.setPins x).ln.keys = v.ln.keys := rfl
@[simp] theorem LaneView.setPins_ln_port : (v.setPins x).ln.port = v.ln.port := rfl
@[simp] theorem LaneView.setPins_ln_filter : (v.setPins x).ln.filter = v.ln.filter := rfl
@[simp] theorem LaneView.setPins_ln_queue : (v.setPins x).ln.queue = v.ln.queue := rfl
@[simp] theorem LaneView.setPins_ln_drawer : (v.setPins x).ln.drawer = v.ln.drawer := rfl
@[simp] theorem LaneView.setPins_ln_live : (v.setPins x).ln.live = v.ln.live := rfl
@[simp] theorem LaneView.setPins_ln_counters : (v.setPins x).ln.counters = v.ln.counters := rfl
@[simp] theorem LaneView.setPins_ln_reportTimer : (v.setPins x).ln.reportTimer = v.ln.reportTimer := rfl
@[simp] theorem LaneView.setPins_ln_checker : (v.setPins x).ln.checker = v.ln.checker := rfl
@[simp] theorem LaneView.setPins_ln_pins : (v.setPins x).ln.pins = x := rfl

end

/-! ### setCfg -/

section

variable (v : LaneView) (x : LaneCfg)

@[simp] theorem LaneView.setCfg_now : (v.setCfg x).now = v.now := rfl
@[simp] theorem LaneView.setCfg_id : (v.setCfg x).id = v.id := rfl
@[simp] theorem LaneView.setCfg_lockdown : (v.setCfg x).lockdown = v.lockdown := rfl
@[simp] theorem LaneView.setCfg_free : (v.setCfg x).free = v.free := rfl
@[simp] theorem LaneView.setCfg_alarms : (v.setCfg x).alarms = v.alarms := rfl
@[simp] theorem LaneView.setCfg_attn : (v.setCfg x).attn = v.attn := rfl
@[simp] theorem LaneView.setCfg_ln_power : (v.setCfg x).ln.power = v.ln.power := rfl
@[simp] theorem LaneView.setCfg_ln_cfg : (v.setCfg x).ln.cfg = x := rfl
@[simp] theorem LaneView.setCfg_ln_keymap : (v.setCfg x).ln.keymap = v.ln.keymap := rfl
@[simp] theorem LaneView.setCfg_ln_set : (v.setCfg x).ln.set = v.ln.set := rfl
@[simp] theorem LaneView.setCfg_ln_keys : (v.setCfg x).ln.keys = v.ln.keys := rfl
@[simp] theorem LaneView.setCfg_ln_port : (v.setCfg x).ln.port = v.ln.port := rfl
@[simp] theorem LaneView.setCfg_ln_filter : (v.setCfg x).ln.filter = v.ln.filter := rfl
@[simp] theorem LaneView.setCfg_ln_queue : (v.setCfg x).ln.queue = v.ln.queue := rfl
@[simp] theorem LaneView.setCfg_ln_drawer : (v.setCfg x).ln.drawer = v.ln.drawer := rfl
@[simp] theorem LaneView.setCfg_ln_live : (v.setCfg x).ln.live = v.ln.live := rfl
@[simp] theorem LaneView.setCfg_ln_counters : (v.setCfg x).ln.counters = v.ln.counters := rfl
@[simp] theorem LaneView.setCfg_ln_reportTimer : (v.setCfg x).ln.reportTimer = v.ln.reportTimer := rfl
@[simp] theorem LaneView.setCfg_ln_checker : (v.setCfg x).ln.checker = v.ln.checker := rfl
@[simp] theorem LaneView.setCfg_ln_pins : (v.setCfg x).ln.pins = v.ln.pins := rfl

end

/-! ### setKeymap -/

section

variable (v : LaneView) (x : Vector KeyAttr 128)

@[simp] theorem LaneView.setKeymap_now : (v.setKeymap x).now = v.now := rfl
@[simp] theorem LaneView.setKeymap_id : (v.setKeymap x).id = v.id := rfl
@[simp] theorem LaneView.setKeymap_lockdown : (v.setKeymap x).lockdown = v.lockdown := rfl
@[simp] theorem LaneView.setKeymap_free : (v.setKeymap x).free = v.free := rfl
@[simp] theorem LaneView.setKeymap_alarms : (v.setKeymap x).alarms = v.alarms := rfl
@[simp] theorem LaneView.setKeymap_attn : (v.setKeymap x).attn = v.attn := rfl
@[simp] theorem LaneView.setKeymap_ln_power : (v.setKeymap x).ln.power = v.ln.power := rfl
@[simp] theorem LaneView.setKeymap_ln_cfg : (v.setKeymap x).ln.cfg = v.ln.cfg := rfl
@[simp] theorem LaneView.setKeymap_ln_keymap : (v.setKeymap x).ln.keymap = x := rfl
@[simp] theorem LaneView.setKeymap_ln_set : (v.setKeymap x).ln.set = v.ln.set := rfl
@[simp] theorem LaneView.setKeymap_ln_keys : (v.setKeymap x).ln.keys = v.ln.keys := rfl
@[simp] theorem LaneView.setKeymap_ln_port : (v.setKeymap x).ln.port = v.ln.port := rfl
@[simp] theorem LaneView.setKeymap_ln_filter : (v.setKeymap x).ln.filter = v.ln.filter := rfl
@[simp] theorem LaneView.setKeymap_ln_queue : (v.setKeymap x).ln.queue = v.ln.queue := rfl
@[simp] theorem LaneView.setKeymap_ln_drawer : (v.setKeymap x).ln.drawer = v.ln.drawer := rfl
@[simp] theorem LaneView.setKeymap_ln_live : (v.setKeymap x).ln.live = v.ln.live := rfl
@[simp] theorem LaneView.setKeymap_ln_counters : (v.setKeymap x).ln.counters = v.ln.counters := rfl
@[simp] theorem LaneView.setKeymap_ln_reportTimer : (v.setKeymap x).ln.reportTimer = v.ln.reportTimer := rfl
@[simp] theorem LaneView.setKeymap_ln_checker : (v.setKeymap x).ln.checker = v.ln.checker := rfl
@[simp] theorem LaneView.setKeymap_ln_pins : (v.setKeymap x).ln.pins = v.ln.pins := rfl

end

/-! ### setSet -/

section

variable (v : LaneView) (x : LaneSet)

@[simp] theorem LaneView.setSet_now : (v.setSet x).now = v.now := rfl
@[simp] theorem LaneView.setSet_id : (v.setSet x).id = v.id := rfl
@[simp] theorem LaneView.setSet_lockdown : (v.setSet x).lockdown = v.lockdown := rfl
@[simp] theorem LaneView.setSet_free : (v.setSet x).free = v.free := rfl
@[simp] theorem LaneView.setSet_alarms : (v.setSet x).alarms = v.alarms := rfl
@[simp] theorem LaneView.setSet_attn : (v.setSet x).attn = v.attn := rfl
@[simp] theorem LaneView.setSet_ln_power : (v.setSet x).ln.power = v.ln.power := rfl
@[simp] theorem LaneView.setSet_ln_cfg : (v.setSet x).ln.cfg = v.ln.cfg := rfl
@[simp] theorem LaneView.setSet_ln_keymap : (v.setSet x).ln.keymap = v.ln.keymap := rfl
@[simp] theorem LaneView.setSet_ln_set : (v.setSet x).ln.set = x := rfl
@[simp] theorem LaneView.setSet_ln_keys : (v.setSet x).ln.keys = v.ln.keys := rfl
@[simp] theorem LaneView.setSet_ln_port : (v.setSet x).ln.port = v.ln.port := rfl
@[simp] theorem LaneView.setSet_ln_filter : (v.setSet x).ln.filter = v.ln.filter := rfl
@[simp] theorem LaneView.setSet_ln_queue : (v.setSet x).ln.queue = v.ln.queue := rfl
@[simp] theorem LaneView.setSet_ln_drawer : (v.setSet x).ln.drawer = v.ln.drawer := rfl
@[simp] theorem LaneView.setSet_ln_live : (v.setSet x).ln.live = v.ln.live := rfl
@[simp] theorem LaneView.setSet_ln_counters : (v.setSet x).ln.counters = v.ln.counters := rfl
@[simp] theorem LaneView.setSet_ln_reportTimer : (v.setSet x).ln.reportTimer = v.ln.reportTimer := rfl
@[simp] theorem LaneView.setSet_ln_checker : (v.setSet x).ln.checker = v.ln.checker := rfl
@[simp] theorem LaneView.setSet_ln_pins : (v.setSet x).ln.pins = v.ln.pins := rfl

end

/-! ### put -/

section

variable (s : State) (l : LaneId) (v : LaneView)

@[simp] theorem State.put_lanes : (s.put l v).lanes = s.lanes.set l v.ln := rfl
@[simp] theorem State.put_rules : (s.put l v).rules = s.rules := rfl
@[simp] theorem State.put_poolFree : (s.put l v).poolFree = v.free := rfl
@[simp] theorem State.put_alarms : (s.put l v).alarms = v.alarms := rfl
@[simp] theorem State.put_pointers : (s.put l v).pointers = s.pointers := rfl
@[simp] theorem State.put_lockdown : (s.put l v).lockdown = s.lockdown := rfl
@[simp] theorem State.put_lkdLevel : (s.put l v).lkdLevel = s.lkdLevel := rfl
@[simp] theorem State.put_link : (s.put l v).link = s.link := rfl
@[simp] theorem State.put_resetCause : (s.put l v).resetCause = s.resetCause := rfl
@[simp] theorem State.put_resetFlag : (s.put l v).resetFlag = s.resetFlag := rfl
@[simp] theorem State.put_porHold : (s.put l v).porHold = s.porHold := rfl
@[simp] theorem State.put_rstAsserted : (s.put l v).rstAsserted = s.rstAsserted := rfl
@[simp] theorem State.put_resetSource : (s.put l v).resetSource = s.resetSource := rfl
@[simp] theorem State.put_timeBase : (s.put l v).timeBase = s.timeBase := rfl
@[simp] theorem State.put_attn : (s.put l v).attn = v.attn := rfl
@[simp] theorem State.put_lkdPin : (s.put l v).lkdPin = s.lkdPin := rfl
@[simp] theorem State.put_pending : (s.put l v).pending = s.pending := rfl

end

/-! ### pushReply -/

section

variable (s : State) (r : Reply)

@[simp] theorem State.pushReply_lanes : (s.pushReply r).lanes = s.lanes := rfl
@[simp] theorem State.pushReply_rules : (s.pushReply r).rules = s.rules := rfl
@[simp] theorem State.pushReply_poolFree : (s.pushReply r).poolFree = s.poolFree := rfl
@[simp] theorem State.pushReply_alarms : (s.pushReply r).alarms = s.alarms := rfl
@[simp] theorem State.pushReply_pointers : (s.pushReply r).pointers = s.pointers := rfl
@[simp] theorem State.pushReply_lockdown : (s.pushReply r).lockdown = s.lockdown := rfl
@[simp] theorem State.pushReply_lkdLevel : (s.pushReply r).lkdLevel = s.lkdLevel := rfl
@[simp] theorem State.pushReply_link : (s.pushReply r).link = { s.link with replies := s.link.replies ++ [r] } := rfl
@[simp] theorem State.pushReply_resetCause : (s.pushReply r).resetCause = s.resetCause := rfl
@[simp] theorem State.pushReply_resetFlag : (s.pushReply r).resetFlag = s.resetFlag := rfl
@[simp] theorem State.pushReply_porHold : (s.pushReply r).porHold = s.porHold := rfl
@[simp] theorem State.pushReply_rstAsserted : (s.pushReply r).rstAsserted = s.rstAsserted := rfl
@[simp] theorem State.pushReply_resetSource : (s.pushReply r).resetSource = s.resetSource := rfl
@[simp] theorem State.pushReply_timeBase : (s.pushReply r).timeBase = s.timeBase := rfl
@[simp] theorem State.pushReply_attn : (s.pushReply r).attn = s.attn := rfl
@[simp] theorem State.pushReply_lkdPin : (s.pushReply r).lkdPin = s.lkdPin := rfl
@[simp] theorem State.pushReply_pending : (s.pushReply r).pending = s.pending := rfl

end

/-! ### countLinkError -/

section

variable (s : State) 

@[simp] theorem State.countLinkError_lanes : (s.countLinkError).lanes = s.lanes := rfl
@[simp] theorem State.countLinkError_rules : (s.countLinkError).rules = s.rules := rfl
@[simp] theorem State.countLinkError_poolFree : (s.countLinkError).poolFree = s.poolFree := rfl
@[simp] theorem State.countLinkError_alarms : (s.countLinkError).alarms = s.alarms := rfl
@[simp] theorem State.countLinkError_pointers : (s.countLinkError).pointers = s.pointers := rfl
@[simp] theorem State.countLinkError_lockdown : (s.countLinkError).lockdown = s.lockdown := rfl
@[simp] theorem State.countLinkError_lkdLevel : (s.countLinkError).lkdLevel = s.lkdLevel := rfl
@[simp] theorem State.countLinkError_link : (s.countLinkError).link = { s.link with errors := bump16 s.link.errors } := rfl
@[simp] theorem State.countLinkError_resetCause : (s.countLinkError).resetCause = s.resetCause := rfl
@[simp] theorem State.countLinkError_resetFlag : (s.countLinkError).resetFlag = s.resetFlag := rfl
@[simp] theorem State.countLinkError_porHold : (s.countLinkError).porHold = s.porHold := rfl
@[simp] theorem State.countLinkError_rstAsserted : (s.countLinkError).rstAsserted = s.rstAsserted := rfl
@[simp] theorem State.countLinkError_resetSource : (s.countLinkError).resetSource = s.resetSource := rfl
@[simp] theorem State.countLinkError_timeBase : (s.countLinkError).timeBase = s.timeBase := rfl
@[simp] theorem State.countLinkError_attn : (s.countLinkError).attn = s.attn := rfl
@[simp] theorem State.countLinkError_lkdPin : (s.countLinkError).lkdPin = s.lkdPin := rfl
@[simp] theorem State.countLinkError_pending : (s.countLinkError).pending = s.pending := rfl

end

/-! ### setHostRx -/

section

variable (s : State) (rx : HostRx)

@[simp] theorem State.setHostRx_lanes : (s.setHostRx rx).lanes = s.lanes := rfl
@[simp] theorem State.setHostRx_rules : (s.setHostRx rx).rules = s.rules := rfl
@[simp] theorem State.setHostRx_poolFree : (s.setHostRx rx).poolFree = s.poolFree := rfl
@[simp] theorem State.setHostRx_alarms : (s.setHostRx rx).alarms = s.alarms := rfl
@[simp] theorem State.setHostRx_pointers : (s.setHostRx rx).pointers = s.pointers := rfl
@[simp] theorem State.setHostRx_lockdown : (s.setHostRx rx).lockdown = s.lockdown := rfl
@[simp] theorem State.setHostRx_lkdLevel : (s.setHostRx rx).lkdLevel = s.lkdLevel := rfl
@[simp] theorem State.setHostRx_link : (s.setHostRx rx).link = { s.link with rx := rx } := rfl
@[simp] theorem State.setHostRx_resetCause : (s.setHostRx rx).resetCause = s.resetCause := rfl
@[simp] theorem State.setHostRx_resetFlag : (s.setHostRx rx).resetFlag = s.resetFlag := rfl
@[simp] theorem State.setHostRx_porHold : (s.setHostRx rx).porHold = s.porHold := rfl
@[simp] theorem State.setHostRx_rstAsserted : (s.setHostRx rx).rstAsserted = s.rstAsserted := rfl
@[simp] theorem State.setHostRx_resetSource : (s.setHostRx rx).resetSource = s.resetSource := rfl
@[simp] theorem State.setHostRx_timeBase : (s.setHostRx rx).timeBase = s.timeBase := rfl
@[simp] theorem State.setHostRx_attn : (s.setHostRx rx).attn = s.attn := rfl
@[simp] theorem State.setHostRx_lkdPin : (s.setHostRx rx).lkdPin = s.lkdPin := rfl
@[simp] theorem State.setHostRx_pending : (s.setHostRx rx).pending = s.pending := rfl

end

/-! ### withRest -/

section

variable (s : State) (rest : List Instr)

@[simp] theorem State.withRest_lanes : (s.withRest rest).lanes = s.lanes := rfl
@[simp] theorem State.withRest_rules : (s.withRest rest).rules = s.rules := rfl
@[simp] theorem State.withRest_poolFree : (s.withRest rest).poolFree = s.poolFree := rfl
@[simp] theorem State.withRest_alarms : (s.withRest rest).alarms = s.alarms := rfl
@[simp] theorem State.withRest_pointers : (s.withRest rest).pointers = s.pointers := rfl
@[simp] theorem State.withRest_lockdown : (s.withRest rest).lockdown = s.lockdown := rfl
@[simp] theorem State.withRest_lkdLevel : (s.withRest rest).lkdLevel = s.lkdLevel := rfl
@[simp] theorem State.withRest_link : (s.withRest rest).link = s.link := rfl
@[simp] theorem State.withRest_resetCause : (s.withRest rest).resetCause = s.resetCause := rfl
@[simp] theorem State.withRest_resetFlag : (s.withRest rest).resetFlag = s.resetFlag := rfl
@[simp] theorem State.withRest_porHold : (s.withRest rest).porHold = s.porHold := rfl
@[simp] theorem State.withRest_rstAsserted : (s.withRest rest).rstAsserted = s.rstAsserted := rfl
@[simp] theorem State.withRest_resetSource : (s.withRest rest).resetSource = s.resetSource := rfl
@[simp] theorem State.withRest_timeBase : (s.withRest rest).timeBase = s.timeBase := rfl
@[simp] theorem State.withRest_attn : (s.withRest rest).attn = s.attn := rfl
@[simp] theorem State.withRest_lkdPin : (s.withRest rest).lkdPin = s.lkdPin := rfl
@[simp] theorem State.withRest_pending : (s.withRest rest).pending = rest := rfl

end

/-! ### withLaneAs -/

section

variable (s : State) (l : LaneId) (d : Lane)

@[simp] theorem State.withLaneAs_lanes : (s.withLaneAs l d).lanes = s.lanes.set l d := rfl
@[simp] theorem State.withLaneAs_rules : (s.withLaneAs l d).rules = s.rules := rfl
@[simp] theorem State.withLaneAs_poolFree : (s.withLaneAs l d).poolFree = s.poolFree := rfl
@[simp] theorem State.withLaneAs_alarms : (s.withLaneAs l d).alarms = s.alarms := rfl
@[simp] theorem State.withLaneAs_pointers : (s.withLaneAs l d).pointers = s.pointers := rfl
@[simp] theorem State.withLaneAs_lockdown : (s.withLaneAs l d).lockdown = s.lockdown := rfl
@[simp] theorem State.withLaneAs_lkdLevel : (s.withLaneAs l d).lkdLevel = s.lkdLevel := rfl
@[simp] theorem State.withLaneAs_link : (s.withLaneAs l d).link = s.link := rfl
@[simp] theorem State.withLaneAs_resetCause : (s.withLaneAs l d).resetCause = s.resetCause := rfl
@[simp] theorem State.withLaneAs_resetFlag : (s.withLaneAs l d).resetFlag = s.resetFlag := rfl
@[simp] theorem State.withLaneAs_porHold : (s.withLaneAs l d).porHold = s.porHold := rfl
@[simp] theorem State.withLaneAs_rstAsserted : (s.withLaneAs l d).rstAsserted = s.rstAsserted := rfl
@[simp] theorem State.withLaneAs_resetSource : (s.withLaneAs l d).resetSource = s.resetSource := rfl
@[simp] theorem State.withLaneAs_timeBase : (s.withLaneAs l d).timeBase = s.timeBase := rfl
@[simp] theorem State.withLaneAs_attn : (s.withLaneAs l d).attn = s.attn := rfl
@[simp] theorem State.withLaneAs_lkdPin : (s.withLaneAs l d).lkdPin = s.lkdPin := rfl
@[simp] theorem State.withLaneAs_pending : (s.withLaneAs l d).pending = s.pending := rfl

end

/-! ### settleAttn -/

section

variable (s : State) 

@[simp] theorem State.settleAttn_lanes : (s.settleAttn).lanes = s.lanes := rfl
@[simp] theorem State.settleAttn_rules : (s.settleAttn).rules = s.rules := rfl
@[simp] theorem State.settleAttn_poolFree : (s.settleAttn).poolFree = s.poolFree := rfl
@[simp] theorem State.settleAttn_alarms : (s.settleAttn).alarms = s.alarms := rfl
@[simp] theorem State.settleAttn_pointers : (s.settleAttn).pointers = s.pointers := rfl
@[simp] theorem State.settleAttn_lockdown : (s.settleAttn).lockdown = s.lockdown := rfl
@[simp] theorem State.settleAttn_lkdLevel : (s.settleAttn).lkdLevel = s.lkdLevel := rfl
@[simp] theorem State.settleAttn_link : (s.settleAttn).link = s.link := rfl
@[simp] theorem State.settleAttn_resetCause : (s.settleAttn).resetCause = s.resetCause := rfl
@[simp] theorem State.settleAttn_resetFlag : (s.settleAttn).resetFlag = s.resetFlag := rfl
@[simp] theorem State.settleAttn_porHold : (s.settleAttn).porHold = s.porHold := rfl
@[simp] theorem State.settleAttn_rstAsserted : (s.settleAttn).rstAsserted = s.rstAsserted := rfl
@[simp] theorem State.settleAttn_resetSource : (s.settleAttn).resetSource = s.resetSource := rfl
@[simp] theorem State.settleAttn_timeBase : (s.settleAttn).timeBase = s.timeBase := rfl
@[simp] theorem State.settleAttn_attn : (s.settleAttn).attn = (s.attn && s.waiting) := rfl
@[simp] theorem State.settleAttn_lkdPin : (s.settleAttn).lkdPin = s.lkdPin := rfl
@[simp] theorem State.settleAttn_pending : (s.settleAttn).pending = s.pending := rfl

end

/-! ### The view of a lane -/

section

variable (s : State) (l : LaneId)

@[simp] theorem State.view_now : (s.view l).now = s.timeBase := rfl
@[simp] theorem State.view_lockdown : (s.view l).lockdown = s.lockdown := rfl
@[simp] theorem State.view_free : (s.view l).free = s.poolFree := rfl
@[simp] theorem State.view_alarms : (s.view l).alarms = s.alarms := rfl
@[simp] theorem State.view_attn : (s.view l).attn = s.attn := rfl
@[simp] theorem State.view_id : (s.view l).id = l := rfl
@[simp] theorem State.view_ln : (s.view l).ln = s.lanes[l] := rfl

end

/-! ### Lanes of a state after an update of one -/

/-- The lane put is read back. -/
@[simp] theorem State.put_lanes_self (s : State) (l : LaneId) (v : LaneView) : (s.put l v).lanes[l] = v.ln := by
  simp [State.put]

/-- Every other lane is as before. -/
theorem State.put_lanes_other (s : State) (l k : LaneId) (v : LaneView) (h : k ≠ l) :
    (s.put l v).lanes[k] = s.lanes[k] := by
  have hne : (l : Nat) ≠ (k : Nat) := fun e => h (Fin.ext e.symm)
  simp [State.put, Vector.getElem_set_ne, hne]

/-- The lane an event works on is the one its view leaves. -/
@[simp] theorem State.onLane_lanes_self (s : State) (l : LaneId) (f : LaneView → LaneView) :
    (s.onLane l f).lanes[l] = (f (s.view l)).ln := State.put_lanes_self s l _

/-- An event of one lane leaves every other lane as it was. -/
theorem State.onLane_lanes_other (s : State) (l k : LaneId) (f : LaneView → LaneView) (h : k ≠ l) :
    (s.onLane l f).lanes[k] = s.lanes[k] := State.put_lanes_other s l k _ h

/-- The lane replaced is read back. -/
@[simp] theorem State.withLaneAs_lanes_self (s : State) (l : LaneId) (d : Lane) : (s.withLaneAs l d).lanes[l] = d := by
  simp [State.withLaneAs]

/-- What an event of one lane can reach: its lane, the pool's free count, the alarm queue and ATTN. -/
theorem State.onLane_frame (s : State) (l : LaneId) (f : LaneView → LaneView) : s.LaneFrame (s.onLane l f) l :=
  { lanes := fun k h => State.onLane_lanes_other s l k f h
    rules := rfl, pointers := rfl, lockdown := rfl, lkdLevel := rfl, link := rfl, resetCause := rfl, resetFlag := rfl
    porHold := rfl, rstAsserted := rfl, resetSource := rfl, timeBase := rfl, lkdPin := rfl, pending := rfl }

end Sys2Proof.Machine
end

