-- ==== Sys2Proof/Laws/Offer.lean ====
section
/-!
SUPPORT. What offering a record can do: one lemma for each shared operation of the lane queue, FLOW and the condition
monitor.
-/

namespace Sys2Proof.Machine

/-- Between two views of a lane nothing changed but what an offered record may change, the pool's free count and ATTN. -/
structure LaneView.OfferFrame (v w : LaneView) : Prop where
  now : w.now = v.now
  id : w.id = v.id
  lockdown : w.lockdown = v.lockdown
  alarms : w.alarms = v.alarms
  ln : v.ln.OfferFrame w.ln

/-- Nothing changed. -/
theorem Lane.OfferFrame.refl (d : Lane) : d.OfferFrame d := by constructor <;> first | rfl | (intros; rfl)

/-- Two changes one after the other. -/
theorem Lane.OfferFrame.trans {d e f : Lane} (h : d.OfferFrame e) (k : e.OfferFrame f) : d.OfferFrame f := by
  constructor
  case live => exact fun c hc => (k.live c hc).trans (h.live c hc)
  all_goals first
    | exact k.power.trans h.power | exact k.cfg.trans h.cfg | exact k.keymap.trans h.keymap
    | exact k.set.trans h.set | exact k.keys.trans h.keys | exact k.rx.trans h.rx | exact k.brk.trans h.brk
    | exact k.host.trans h.host | exact k.drawerReason.trans h.drawerReason | exact k.check.trans h.check
    | exact k.filter.trans h.filter | exact k.drawer.trans h.drawer | exact k.counters.trans h.counters
    | exact k.reportTimer.trans h.reportTimer | exact k.checker.trans h.checker | exact k.pins.trans h.pins

/-- Nothing changed. -/
theorem LaneView.OfferFrame.refl (v : LaneView) : v.OfferFrame v := ⟨rfl, rfl, rfl, rfl, .refl _⟩

/-- Two changes one after the other. -/
theorem LaneView.OfferFrame.trans {u v w : LaneView} (h : u.OfferFrame v) (k : v.OfferFrame w) : u.OfferFrame w :=
  ⟨k.now.trans h.now, k.id.trans h.id, k.lockdown.trans h.lockdown, k.alarms.trans h.alarms, h.ln.trans k.ln⟩

/-! ### The scanner command queue -/

/-- Appending an 'E' or 'D' changes the command queue and the line state alone. -/
theorem ScannerPort.appendEnable_frame (p : ScannerPort) (e : Enable) :
    (p.appendEnable e).rx = p.rx ∧ (p.appendEnable e).brk = p.brk ∧ (p.appendEnable e).reasons = p.reasons :=
  ⟨rfl, rfl, rfl⟩

/-- A change of the desired state changes the command queue and the line state alone. -/
theorem ScannerPort.changeDesired_frame (p : ScannerPort) (e : Enable) :
    (p.changeDesired e).rx = p.rx ∧ (p.changeDesired e).brk = p.brk ∧ (p.changeDesired e).reasons = p.reasons := by
  unfold ScannerPort.changeDesired
  dsimp only
  split <;> exact ⟨rfl, rfl, rfl⟩

/-- A change of the disable-reason set changes the scanner port alone: the set becomes the one given, and only the
command queue and the line state may follow. -/
theorem LaneView.setReasons_eq (v : LaneView) (r : Reasons) :
    ∃ p : ScannerPort, v.setReasons r = v.setPort p ∧ p.reasons = r ∧ p.rx = v.ln.port.rx ∧ p.brk = v.ln.port.brk := by
  unfold LaneView.setReasons
  dsimp only
  split
  · obtain ⟨h1, h2, h3⟩ := ScannerPort.changeDesired_frame { v.ln.port with reasons := r } r.desired
    exact ⟨_, rfl, h3, h1, h2⟩
  · exact ⟨_, rfl, rfl, rfl, rfl⟩

/-- A change of FLOW alone. -/
theorem LaneView.setFlow_frame (v : LaneView) (b : Bool) :
    v.OfferFrame (v.setReasons { v.ln.port.reasons with flow := b }) ∧
      (v.setReasons { v.ln.port.reasons with flow := b }).ln.queue = v.ln.queue ∧
      (v.setReasons { v.ln.port.reasons with flow := b }).ln.live = v.ln.live ∧
      (v.setReasons { v.ln.port.reasons with flow := b }).free = v.free ∧
      (v.setReasons { v.ln.port.reasons with flow := b }).attn = v.attn ∧
      (v.setReasons { v.ln.port.reasons with flow := b }).ln.port.reasons.flow = b := by
  obtain ⟨p, hp, hr, hx, hb⟩ := v.setReasons_eq { v.ln.port.reasons with flow := b }
  rw [hp]
  refine ⟨⟨rfl, rfl, rfl, rfl, ?_⟩, rfl, rfl, rfl, rfl, ?_⟩
  · constructor <;> first | rfl | exact hx | exact hb | (simp [hr]; done) | (intros; rfl)
  · simp [hr]

/-! ### Taking and refusing -/

/-- Taking a record, FLOW apart. -/
theorem LaneView.enqueue_frame (v : LaneView) (b : RecordBody) : v.OfferFrame (v.enqueue b) :=
  ⟨rfl, rfl, rfl, rfl, by constructor <;> first | rfl | (intros; rfl)⟩

/-- Refusing a record changes the loss count alone. -/
theorem LaneView.refuse_frame (v : LaneView) (b : RecordBody) : v.OfferFrame (v.refuse b) := by
  unfold LaneView.refuse
  split
  · exact .refl v
  · exact ⟨rfl, rfl, rfl, rfl, by constructor <;> first | rfl | (intros; rfl)⟩

/-- A refused record leaves the records, the pool and ATTN as they were. -/
theorem LaneView.refuse_records (v : LaneView) (b : RecordBody) :
    (v.refuse b).ln.queue.records = v.ln.queue.records ∧ (v.refuse b).free = v.free ∧ (v.refuse b).attn = v.attn := by
  unfold LaneView.refuse
  split <;> exact ⟨rfl, rfl, rfl⟩

/-- The live states but one are as they were. -/
theorem LaneView.setLive_other (v : LaneView) (c k : Condition) (b : Bool) (h : k ≠ c) :
    (v.setLive c b).ln.liveOf k = v.ln.liveOf k := by
  have hne : (c.idx : Nat) ≠ (k.idx : Nat) := by revert h; cases c <;> cases k <;> decide
  simp [LaneView.setLive, Lane.liveOf, Vector.getElem_set_ne, hne]

/-- The live state set is read back. -/
@[simp] theorem LaneView.setLive_self (v : LaneView) (c : Condition) (b : Bool) :
    (v.setLive c b).ln.liveOf c = b := by
  simp [LaneView.setLive, Lane.liveOf]

/-- SCANNER_HELD replaced. -/
theorem LaneView.setLive_frame (v : LaneView) (b : Bool) : v.OfferFrame (v.setLive .scannerHeld b) :=
  ⟨rfl, rfl, rfl, rfl, by
    constructor <;> first | rfl | exact fun c hc => v.setLive_other .scannerHeld c b hc⟩

/-! ### FLOW -/

/-- Everything an evaluation of FLOW can do: within the frame of an offer it appends SCANNER_HELD records alone, takes no
slot, and never deasserts ATTN. -/
theorem LaneView.evalFlow_spec (n : Nat) (v : LaneView) :
    v.OfferFrame (v.evalFlow n) ∧ (v.evalFlow n).free = v.free ∧
      (∃ more, (v.evalFlow n).ln.queue.records = v.ln.queue.records ++ more ∧
        (∀ m ∈ more, m.body.isCondition = true ∧ m.body.classA = false ∧ m.body.slots = 0) ∧
        (v.evalFlow n).attn = (v.attn || decide (more ≠ []))) ∧
      (v.evalFlow n).ln.queue.held = v.ln.queue.held := by
  induction n generalizing v with
  | zero => exact ⟨.refl v, rfl, ⟨[], by simp [LaneView.evalFlow]⟩, rfl⟩
  | succ n ih =>
    unfold LaneView.evalFlow
    split
    · exact ⟨.refl v, rfl, ⟨[], by simp⟩, rfl⟩
    · next flow _ =>
      obtain ⟨hf, hq, hl, hfr, ha, _⟩ := v.setFlow_frame flow
      dsimp only
      split
      · split
        · split
          · obtain ⟨h1, h2, ⟨more, h3, h4, h5⟩, h6⟩ := ih
              (((v.setReasons { v.ln.port.reasons with flow := flow }).setLive .scannerHeld flow).enqueue
                (.condition .scannerHeld flow))
            refine ⟨((hf.trans (LaneView.setLive_frame _ _)).trans (LaneView.enqueue_frame _ _)).trans h1, ?_, ?_, ?_⟩
            · rw [h2]; simp [LaneView.enqueue, RecordBody.slots, LaneView.setLive, hfr]
            · refine ⟨LaneView.record ((v.setReasons { v.ln.port.reasons with flow := flow }).setLive .scannerHeld flow)
                (.condition .scannerHeld flow) :: more, ?_, ?_, ?_⟩
              · rw [h3]; simp [LaneView.enqueue, LaneView.setLive, hq]
              · intro m hm
                rcases List.mem_cons.mp hm with rfl | hm
                · exact ⟨rfl, rfl, rfl⟩
                · exact h4 m hm
              · rw [h5]; simp [LaneView.enqueue]
            · rw [h6]; simp [LaneView.enqueue, RecordBody.slots, LaneView.setLive, hq]
          · refine ⟨(hf.trans (LaneView.setLive_frame _ _)).trans (LaneView.refuse_frame _ _), ?_, ⟨[], ?_⟩, ?_⟩
            · rw [(LaneView.refuse_records _ _).2.1]; simp [LaneView.setLive, hfr]
            · refine ⟨?_, by simp, ?_⟩
              · rw [(LaneView.refuse_records _ _).1]; simp [LaneView.setLive, hq]
              · rw [(LaneView.refuse_records _ _).2.2]; simp [LaneView.setLive, ha]
            · simp [LaneView.refuse, RecordBody.classA, LaneView.setLive, hq]
        · refine ⟨hf.trans (LaneView.setLive_frame _ _), ?_, ⟨[], ?_⟩, ?_⟩
          · simp [LaneView.setLive, hfr]
          · simp [LaneView.setLive, hq, ha]
          · simp [LaneView.setLive, hq]
      · exact ⟨hf, hfr, ⟨[], by simp [hq, ha]⟩, by simp [hq]⟩

/-! ### Offering -/

/-- The frame of an offer. -/
theorem LaneView.offer_frame (v : LaneView) (b : RecordBody) : v.OfferFrame (v.offer b) := by
  unfold LaneView.offer
  split
  · exact (v.enqueue_frame b).trans (LaneView.evalFlow_spec _ _).1
  · exact v.refuse_frame b

/-- A taken record stands behind what the queue held, SCANNER_HELD records alone follow it, its slot leaves the pool for
the lane, and ATTN is asserted (R93). -/
theorem LaneView.offer_taken (v : LaneView) (b : RecordBody) (h : v.takes b = true) :
    (∃ more, (v.offer b).ln.queue.records = v.ln.queue.records ++ v.record b :: more ∧
      ∀ m ∈ more, m.body.isCondition = true ∧ m.body.classA = false ∧ m.body.slots = 0) ∧
      (v.offer b).attn = true ∧ (v.offer b).free = v.free - b.slots ∧
      (v.offer b).ln.queue.held = v.ln.queue.held + b.slots := by
  unfold LaneView.offer
  rw [if_pos h]
  obtain ⟨_, h2, ⟨more, h3, h4, h5⟩, h6⟩ := LaneView.evalFlow_spec flowFuel (v.enqueue b)
  refine ⟨⟨more, ?_, h4⟩, ?_, h2, h6⟩
  · rw [h3]; simp [LaneView.enqueue]
  · rw [h5]; simp [LaneView.enqueue]

/-- A refused class A record changes nothing (R94). -/
theorem LaneView.offer_refusedA (v : LaneView) (b : RecordBody) (h : v.takes b = false) (ha : b.classA = true) :
    v.offer b = v := by
  simp [LaneView.offer, h, LaneView.refuse, ha]

/-- A refused class B record raises the loss count and changes nothing else (R95). -/
theorem LaneView.offer_refusedB (v : LaneView) (b : RecordBody) (h : v.takes b = false) (hb : b.classA = false) :
    v.offer b = v.setQueue { v.ln.queue with loss := bump8 v.ln.queue.loss } := by
  simp [LaneView.offer, h, LaneView.refuse, hb]

/-- A class B record is taken exactly while the count is below 32 (R91). -/
theorem LaneView.takes_classB (v : LaneView) (b : RecordBody) (hb : b.classA = false) :
    v.takes b = decide (v.ln.count < 32) := by
  unfold LaneView.takes
  rw [hb]
  rfl

/-- A class B record holds no slot. -/
theorem RecordBody.slots_classB (b : RecordBody) (hb : b.classA = false) : b.slots = 0 := by
  cases b <;> first | rfl | cases hb

/-- An offer changes no live state but SCANNER_HELD, keeps the records it found at the front, and leaves ATTN asserted
where it was. -/
theorem LaneView.offer_records (v : LaneView) (b : RecordBody) :
    ∃ more, (v.offer b).ln.queue.records = v.ln.queue.records ++ more ∧
      (v.offer b).attn = (v.attn || decide (more ≠ [])) := by
  by_cases h : v.takes b = true
  · obtain ⟨⟨more, h1, _⟩, h2, _⟩ := v.offer_taken b h
    exact ⟨_, h1, by simp [h2]⟩
  · refine ⟨[], ?_, ?_⟩ <;> simp [LaneView.offer, h, LaneView.refuse_records]

/-! ### Handing over a live state -/

/-- A condition other than SCANNER_HELD handed over to an ON lane stands; every other live state but SCANNER_HELD, and
everything outside the frame of an offer, is as before (R132). -/
theorem LaneView.handOver_live (v : LaneView) (c : Condition) (b : Bool) (hc : c ≠ .scannerHeld) :
    (v.handOver c b).ln.liveOf c = (if v.ln.on then b else v.ln.liveOf c) := by
  unfold LaneView.handOver
  cases hon : v.ln.on
  · simp
  · by_cases hl : v.ln.liveOf c = b
    · simp [hl]
    · have hf := (LaneView.offer_frame (v.setLive c b) (.condition c b)).ln.live c hc
      simp only [hl, ne_eq, not_false_eq_true, decide_true, Bool.and_self, if_true]
      split
      · rw [hf]; exact LaneView.setLive_self v c b
      · exact LaneView.setLive_self v c b

/-- The view with one live state replaced is in the frame of what handing it over may change. -/
theorem LaneView.handOver_frame (v : LaneView) (c : Condition) (b : Bool) :
    v.handOver c b = v ∨ (v.setLive c b).OfferFrame (v.handOver c b) := by
  unfold LaneView.handOver
  split
  · dsimp only
    split
    · exact .inr (LaneView.offer_frame _ _)
    · exact .inr (.refl _)
  · exact .inl rfl

end Sys2Proof.Machine
end

