-- ==== Sys2Proof/Laws/Requests.lean ====
section
/-!
SUPPORT. How a request is taken, and how a lane request reaches its lane: what the lemmas about single requests start
from.
-/

namespace Sys2Proof.Machine

/-- A request that is taken is served and its reply joins the buffers (R177). -/
theorem State.request_ready (s : State) (tag : Byte) (r : Request) (h : s.ready) :
    s.request tag r = ((s.serve r).1).pushReply (replyTo r.kind.byte tag (s.serve r).2) := by
  obtain ⟨h1, h2, h3⟩ := h
  unfold State.request State.takeRequest
  simp [h1, Nat.not_le.mpr h2, h3, State.serveParsed]

/-- A request finds both buffers full (R177 step 1). -/
theorem State.request_full (s : State) (tag : Byte) (r : Request) (h : s.held = false)
    (hf : 2 ≤ s.link.replies.length) : s.request tag r = s.countLinkError := by
  unfold State.request State.takeRequest
  simp [h, Config.replyBuffers, hf]

/-- A request finds a RESTART pending (R177 step 2). -/
theorem State.request_pending (s : State) (tag : Byte) (r : Request) (h : s.held = false)
    (hf : s.link.replies.length < 2) (hp : s.link.restartPending = true) : s.request tag r = s := by
  unfold State.request State.takeRequest
  simp [h, Config.replyBuffers, Nat.not_le.mpr hf, hp]

/-- A request while the part is held in reset (R188). -/
theorem State.request_held (s : State) (tag : Byte) (r : Request) (h : s.held = true) : s.request tag r = s := by
  unfold State.request State.takeRequest
  simp [h]

/-- A lane request whose lane byte names a lane acts on that lane. -/
theorem State.answerLane_lane (s : State) (lane : Byte) (l : LaneId) (f : LaneView → LaneView × Answer)
    (h : lane.toNat = l.val) : s.answerLane lane f = (s.put l (f (s.view l)).1, (f (s.view l)).2) := by
  have hl : lane.toNat < 8 := by have := l.isLt; omega
  have he : (⟨lane.toNat, hl⟩ : LaneId) = l := Fin.ext h
  unfold State.answerLane State.withLane
  rw [dif_pos hl, he]

/-- A lane request whose lane byte names none is refused with BAD_LANE (R177 step 5). -/
theorem State.answerLane_none (s : State) (lane : Byte) (f : LaneView → LaneView × Answer) (h : 8 ≤ lane.toNat) :
    s.answerLane lane f = (s, .only .badLane) := by
  unfold State.answerLane State.withLane
  rw [dif_neg (by omega)]

/-- A lane put back as it was viewed. -/
theorem State.put_view (s : State) (l : LaneId) : s.put l (s.view l) = s := by
  have h : s.lanes.set l.val s.lanes[l] l.isLt = s.lanes := by simp
  cases s
  simp only [State.put, State.view] at h ⊢
  rw [h]

/-- A reply other than RELEASE's, as it joins the buffers. -/
theorem State.pushReply_answer (s : State) (kind tag : Byte) (a : Answer) (h : kind ≠ 0x0A#8) :
    s.pushReply (replyTo kind tag a) = s.answered (kind ||| 0x80) tag a.code a.body := by
  have hk : kind ≠ RequestKind.release.byte := h
  simp [State.pushReply, State.answered, replyTo, hk]

/-- The lane byte 0xFF names no lane. -/
theorem lane_byte_ne_any (lane : Byte) (l : LaneId) (h : lane.toNat = l.val) : lane ≠ anyLaneByte := by
  intro e
  have := l.isLt
  rw [e] at h
  simp [anyLaneByte] at h
  omega

end Sys2Proof.Machine
end

