-- ==== Sys2Proof/Laws/Events.lean ====
section
/-!
SUPPORT. What the other shared operations can do: an event of one lane, the alarm queue, the scanner command queue, the
chain of FLOW evaluations, the close of an event, and the end of a step.
-/

namespace Sys2Proof.Machine

/-! ### An event of one lane -/

/-- An event that is heard. -/
theorem State.laneEvent_heard (s : State) (l : LaneId) (f : LaneView → LaneView) (h : s.held = false) :
    s.laneEvent l f = s.onLane l f := by simp [State.laneEvent, h]

/-- An event while the part is held in reset (R188). -/
theorem State.laneEvent_held (s : State) (l : LaneId) (f : LaneView → LaneView) (h : s.held = true) :
    s.laneEvent l f = s := by simp [State.laneEvent, h]

/-- What an event of one lane can reach, heard or not. -/
theorem State.laneEvent_frame (s : State) (l : LaneId) (f : LaneView → LaneView) : s.LaneFrame (s.laneEvent l f) l := by
  cases h : s.held
  · rw [s.laneEvent_heard l f h]; exact s.onLane_frame l f
  · rw [s.laneEvent_held l f h]
    constructor <;> first | rfl | (intros; rfl)

/-- An event that leaves its view as it was changes nothing. -/
theorem State.onLane_same (s : State) (l : LaneId) (f : LaneView → LaneView) (h : f (s.view l) = s.view l) :
    s.onLane l f = s := by
  unfold State.onLane
  rw [h]
  exact s.put_view l

/-- A frame of one lane joined with the next. -/
theorem State.LaneFrame.trans {s t u : State} {l : LaneId} (h : s.LaneFrame t l) (k : t.LaneFrame u l) :
    s.LaneFrame u l :=
  { lanes := fun i hi => (k.lanes i hi).trans (h.lanes i hi)
    rules := k.rules.trans h.rules, pointers := k.pointers.trans h.pointers, lockdown := k.lockdown.trans h.lockdown
    lkdLevel := k.lkdLevel.trans h.lkdLevel, link := k.link.trans h.link, resetCause := k.resetCause.trans h.resetCause
    resetFlag := k.resetFlag.trans h.resetFlag, porHold := k.porHold.trans h.porHold
    rstAsserted := k.rstAsserted.trans h.rstAsserted, resetSource := k.resetSource.trans h.resetSource
    timeBase := k.timeBase.trans h.timeBase, lkdPin := k.lkdPin.trans h.lkdPin, pending := k.pending.trans h.pending }

/-- A break character on SRXn goes to the break detector, whatever the line checker and the frame receiver do (R43). -/
theorem LaneView.srxByte_break (v : LaneView) (rules : Vector CodeRule 16) (b : Byte) (e : Bool)
    (h : isBreakCharacter b e = true) : v.srxByte rules b e = v.breakCharacter := by
  cases hon : v.ln.on <;> simp [LaneView.srxByte, LaneView.breakCharacter, h, hon]

/-- A byte arrival on SRXn of an ON lane goes to the line checker while a check runs, and to the frame receiver otherwise
(R60). -/
theorem LaneView.srxByte_byte (v : LaneView) (rules : Vector CodeRule 16) (b : Byte) (e : Bool) (hon : v.ln.on = true)
    (h : isBreakCharacter b e = false) :
    v.srxByte rules b e =
      if v.ln.checking then v.setChecker (v.ln.checker.compare v.id b) else v.receiveByte rules b e := by
  simp [LaneView.srxByte, h, hon]

/-! ### Alarms (R149) -/

/-- Raising an alarm keeps the kinds and lanes of the records there are, and adds the new pair at the tail exactly when no
record has it. -/
theorem raiseAlarm_keys (now : Time) (kind : AlarmKind) (lane : Option LaneId) (alarms : List Alarm) :
    (raiseAlarm now kind lane alarms).map (fun a => (a.kind, a.lane)) =
      if (kind, lane) ∈ alarms.map (fun a => (a.kind, a.lane)) then alarms.map fun a => (a.kind, a.lane)
      else alarms.map (fun a => (a.kind, a.lane)) ++ [(kind, lane)] := by
  induction alarms with
  | nil => simp [raiseAlarm]
  | cons a rest ih =>
    unfold raiseAlarm
    by_cases h : a.kind = kind ∧ a.lane = lane
    · rw [if_pos h]
      obtain ⟨h1, h2⟩ := h
      simp [h1, h2]
    · rw [if_neg h, List.map_cons, ih]
      have hne : ¬(kind, lane) = (a.kind, a.lane) := by
        intro e
        rw [Prod.mk.injEq] at e
        exact h ⟨e.1.symm, e.2.symm⟩
      by_cases hm : (kind, lane) ∈ rest.map fun a => (a.kind, a.lane)
      · rw [if_pos hm, if_pos (by rw [List.map_cons]; exact List.mem_cons_of_mem _ hm), List.map_cons]
      · rw [if_neg hm, if_neg (by
          rw [List.map_cons, List.mem_cons]
          exact fun e => e.elim hne hm), List.map_cons, List.cons_append]

/-- After an alarm is raised the alarm queue holds a record. -/
theorem raiseAlarm_ne_nil (now : Time) (kind : AlarmKind) (lane : Option LaneId) (alarms : List Alarm) :
    raiseAlarm now kind lane alarms ≠ [] := by
  cases alarms with
  | nil => simp [raiseAlarm]
  | cons a rest => unfold raiseAlarm; split <;> simp

/-! ### The scanner command queue (R53 to R56) -/

/-- Dropping the last tone of a list of tones drops its last entry. -/
theorem dropLastTone_tones (l : List ScanCmd) (h : ∀ c ∈ l, c.isTone = true) : dropLastTone l = l.dropLast := by
  induction l with
  | nil => rfl
  | cons c rest ih =>
    cases rest with
    | nil => simp [dropLastTone, h c (List.mem_singleton.mpr rfl)]
    | cons d more =>
      have hd : (d :: more).any ScanCmd.isTone = true := by simp [h d (by simp)]
      rw [dropLastTone, if_pos hd, ih fun x hx => h x (List.mem_cons_of_mem _ hx), List.dropLast_cons_cons]

/-- Withdrawing keeps the head and the waiting tones (R55 step 1). -/
theorem withdrawWaiting_eq (l : List ScanCmd) :
    withdrawWaiting l = l.take 1 ++ l.tail.filter ScanCmd.isTone := by
  cases l <;> simp [withdrawWaiting]

/-- After withdrawing, making room leaves at most three entries of a queue that held at most four (R55). -/
theorem makeRoom_withdrawn (l : List ScanCmd) (h : l.length ≤ 4) :
    makeRoom (withdrawWaiting l) = (withdrawWaiting l).take 3 := by
  cases l with
  | nil => rfl
  | cons c rest =>
    have hr : rest.length ≤ 3 := by
      rw [List.length_cons] at h
      omega
    have hf : (rest.filter ScanCmd.isTone).length ≤ 3 := (List.length_filter_le _ _).trans hr
    have ht : dropLastTone (rest.filter ScanCmd.isTone) = (rest.filter ScanCmd.isTone).dropLast :=
      dropLastTone_tones _ fun x hx => (List.mem_filter.mp hx).2
    simp only [withdrawWaiting, makeRoom, Config.commandQueueSize, ht]
    generalize rest.filter ScanCmd.isTone = w at hf
    rcases w with _ | ⟨a, _ | ⟨b, _ | ⟨d, _ | ⟨e, w⟩⟩⟩⟩ <;> simp at hf ⊢
    omega

/-! ### FLOW (R103, R136) -/

/-- With the settings in range, once FLOW has been evaluated and a SCANNER_HELD record taken, it stays: the chain of
evaluations within one event ends there (R136). -/
theorem Lane.flow_settles (d e : Lane) (flow : Bool) (hr : d.set.InRange) (h : d.flowVerdict = some flow)
    (hs : e.set = d.set) (hc : e.count = d.count + 1) (hh : e.queue.held = d.queue.held)
    (hf : e.port.reasons.flow = flow) : e.flowVerdict = none := by
  obtain ⟨-, -, -, -, -, -, -, hlow, -⟩ := hr
  unfold Lane.flowVerdict at h ⊢
  rw [hs, hc, hh, hf]
  split at h
  · split at h
    · cases h
    · cases h
      rw [if_pos (by omega)]
      rfl
  · split at h
    · split at h
      · cases h
        split
        · omega
        · split <;> rfl
      · cases h
    · cases h

/-- An evaluation that finds nothing to change. -/
theorem LaneView.evalFlow_none (n : Nat) (v : LaneView) (h : v.ln.flowVerdict = none) : v.evalFlow n = v := by
  cases n with
  | zero => rfl
  | succ n => unfold LaneView.evalFlow; rw [h]

/-- With the settings in range a longer bound gives the same chain, so the bound of `flowFuel` cuts nothing off (R136). -/
theorem LaneView.evalFlow_bound (n : Nat) (v : LaneView) (hr : v.ln.set.InRange) :
    v.evalFlow (n + 1) = v.evalFlow flowFuel := by
  rw [show flowFuel = 1 + 1 from rfl]
  unfold LaneView.evalFlow
  split
  · rfl
  · next flow hv =>
    obtain ⟨hf, hq, _, _, _, hfl⟩ := v.setFlow_frame flow
    dsimp only
    split
    · split
      · split
        · have hn :
              (((v.setReasons { v.ln.port.reasons with flow := flow }).setLive .scannerHeld flow).enqueue
                (.condition .scannerHeld flow)).ln.flowVerdict = none := by
            refine Lane.flow_settles v.ln _ flow hr hv ?_ ?_ ?_ ?_
            · exact hf.ln.set
            · simp [LaneView.enqueue, LaneView.setLive, Lane.count, hq]
            · simp [LaneView.enqueue, LaneView.setLive, hq, RecordBody.slots]
            · exact hfl
          rw [LaneView.evalFlow_none _ _ hn, LaneView.evalFlow_none _ _ hn]
        · rfl
      · rfl
    · rfl

/-! ### The close of an event (R138) -/

/-- Closing an event changes nothing, or hands COUNTER_FULL to the monitor. -/
theorem LaneView.closeCounters_frame (v : LaneView) (before : Counters) :
    v.closeCounters before = v ∨
      (v.setLive .counterFull v.ln.counters.full).OfferFrame (v.closeCounters before) := by
  unfold LaneView.closeCounters
  split
  · exact .inl rfl
  · exact v.handOver_frame .counterFull v.ln.counters.full

/-! ### The step -/

/-- A step with a command waiting. -/
theorem step_cons (s : State) (c : Instr) (rest : List Instr) (h : s.pending = c :: rest) :
    step s = exec c (s.withRest rest) := by
  unfold step
  rw [h]

/-- A step with no command waiting. -/
theorem step_nil (s : State) (h : s.pending = []) : step s = .next s.tick := by
  unfold step
  rw [h]

end Sys2Proof.Machine
end

