-- ==== Sys2Proof/Laws/Monitor.lean ====
section
/-!
SUPPORT. The relations of Sys2Proof/Safety.lean hold of the shared operations: one lemma for each, saying everything the
operation does to a lane. A statement about an event is a chain of them.
-/

namespace Sys2Proof.Machine

/-! ### The scanner port -/

/-- A change of the disable-reason set (R55, R57, R60). -/
theorem LaneView.setReasons_redirected (v : LaneView) (r : Reasons) : v.ln.Redirected (v.setReasons r).ln r := by
  unfold LaneView.setReasons
  dsimp only
  split
  · next h =>
    simp only [Bool.and_eq_true, Bool.not_eq_true', decide_eq_true_eq] at h
    obtain ⟨⟨hon, hch⟩, hne⟩ := h
    obtain ⟨h1, h2, h3⟩ := ScannerPort.changeDesired_frame { v.ln.port with reasons := r } r.desired
    refine ⟨?_, ?_, ?_, ?_⟩
    · simp only [LaneView.setPort]
      congr 1
      generalize ScannerPort.changeDesired _ _ = q at h1 h2 h3 ⊢
      cases q
      simp only at h1 h2 h3
      subst h1 h2 h3
      rfl
    · rintro (h | h | h)
      · simp [hon] at h
      · simp [hch] at h
      · exact absurd h hne
    · intro _ _ _ hl
      simp [ScannerPort.changeDesired, LaneView.setPort, hl, withdrawWaiting_eq]
    · intro _ _ _ hl hlen
      have hm := makeRoom_withdrawn v.ln.port.cmds hlen
      rw [withdrawWaiting_eq] at hm
      simp only [ScannerPort.changeDesired, LaneView.setPort, hl, if_false, ScannerPort.appendEnable,
        ScannerPort.append, withdrawWaiting_eq, hm, beginCommand]
      refine ⟨trivial, ?_⟩
      cases hc : v.ln.port.cmds <;> simp
  · next h =>
    refine ⟨rfl, fun _ => ⟨rfl, rfl⟩, ?_, ?_⟩
    all_goals
      intro h1 h2 h3
      exact absurd (by simp [h1, h2, h3]) h

/-- The re-statement of the enable state (R56). -/
theorem LaneView.restate_restated (v : LaneView) : v.ln.Restated (v.setPort v.ln.port.restate).ln := by
  refine ⟨rfl, ?_, ?_⟩
  · intro hlen
    have hm := makeRoom_withdrawn v.ln.port.cmds hlen
    rw [withdrawWaiting_eq] at hm
    simp [LaneView.setPort, ScannerPort.restate, ScannerPort.appendEnable, ScannerPort.append, withdrawWaiting_eq, hm]
  · cases hc : v.ln.port.cmds with
    | nil => simp [LaneView.setPort, ScannerPort.restate, ScannerPort.appendEnable, ScannerPort.append, withdrawWaiting,
        makeRoom, beginCommand, hc]
    | cons c rest =>
      simp only [LaneView.setPort, ScannerPort.restate, ScannerPort.appendEnable, ScannerPort.append, withdrawWaiting,
        makeRoom, hc]
      split <;> simp

/-- A tone offered to an ON lane without a line check (R54). -/
theorem ScannerPort.offerTone_eq (p : ScannerPort) (t : Tone) : p.offerTone t = { p with cmds := p.withTone t } := by
  have h : p.toneFits = true ↔ (p.cmds.tail.filter ScanCmd.isTone).length ≤ 2 ∧ p.cmds.length ≤ 3 := by
    have e : p.toneFits =
        (decide ((p.cmds.tail.filter ScanCmd.isTone).length < 3) && decide (p.cmds.length < 4)) := rfl
    rw [e, Bool.and_eq_true, decide_eq_true_eq, decide_eq_true_eq]
    omega
  unfold ScannerPort.offerTone ScannerPort.withTone
  simp only [h]
  split
  · simp [ScannerPort.append, beginCommand]
  · rfl

/-- A tone under confirm tones, on an ON lane without a line check (R54, R61). -/
theorem LaneView.confirmTone_toned (v : LaneView) (t : Tone) (hon : v.ln.on = true) (hch : v.ln.checking = false) :
    v.confirmTone t = { v with ln := v.ln.toned (some t) } := by
  unfold LaneView.confirmTone Lane.toned
  dsimp only
  split
  · simp [LaneView.offerTone, hon, hch, LaneView.setPort, ScannerPort.offerTone_eq]
  · rfl

/-! ### FLOW -/

/-- FLOW is found to change exactly when its evaluation gives another value than it has (R103). -/
theorem Lane.flowVerdict_eq (d : Lane) :
    d.flowVerdict = if d.flowOf = d.port.reasons.flow then none else some d.flowOf := by
  unfold Lane.flowVerdict Lane.flowOf Lane.count
  by_cases h1 : d.set.high ≤ d.queue.records.length ∨ d.set.quota ≤ d.queue.held
  · rw [if_pos h1, if_pos h1]; cases d.port.reasons.flow <;> rfl
  · rw [if_neg h1, if_neg h1]
    by_cases h2 : d.queue.records.length ≤ d.set.low ∧ d.queue.held + 2 ≤ d.set.quota
    · rw [if_pos h2, if_pos h2]; cases d.port.reasons.flow <;> rfl
    · rw [if_neg h2, if_neg h2, if_pos rfl]

/-- A report mode covers a change exactly when the monitor reports it (R132). -/
theorem Lane.reports_iff (d : Lane) (c : Condition) (live : Bool) :
    (d.modeOf c).reports live = true ↔ d.Reports c live := by
  unfold Lane.Reports
  cases d.modeOf c <;> simp [ReportMode.reports]

/-- Everything an evaluation of FLOW does to the lane (R103, R104, R136). -/
theorem LaneView.evalFlow_evaluated (v : LaneView) : v.ln.FlowEvaluated (v.evalFlow flowFuel).ln v.id v.now := by
  by_cases hs : v.ln.flowOf = v.ln.port.reasons.flow
  · have hv : v.ln.flowVerdict = none := by rw [Lane.flowVerdict_eq, if_pos hs]
    rw [LaneView.evalFlow_none _ _ hv]
    refine ⟨.refl _, fun _ => rfl, fun _ => ⟨v.ln, ?_, rfl⟩, fun _ => by simp [hs], fun _ => by simp [hs]⟩
    rw [hs]
    exact ⟨rfl, fun _ => ⟨rfl, rfl⟩, fun _ _ h => absurd rfl h, fun _ _ h => absurd rfl h⟩
  · have hv : v.ln.flowVerdict = some v.ln.flowOf := by rw [Lane.flowVerdict_eq, if_neg hs]
    have hframe := (LaneView.evalFlow_spec flowFuel v).1.ln
    suffices h : v.ln.set.InRange →
        ((v.evalFlow flowFuel).ln.port = (v.setReasons { v.ln.port.reasons with flow := v.ln.flowOf }).ln.port ∧
          ((v.evalFlow flowFuel).ln.liveOf .scannerHeld =
            if v.ln.on = true then v.ln.flowOf else v.ln.liveOf .scannerHeld) ∧
          (v.evalFlow flowFuel).ln.queue =
            if v.ln.on = true ∧ v.ln.flowOf ≠ v.ln.liveOf .scannerHeld ∧ v.ln.Reports .scannerHeld v.ln.flowOf then
              if v.ln.count < 32 then (v.ln.taking v.id v.now (.condition .scannerHeld v.ln.flowOf)).queue
              else v.ln.losing.queue
            else v.ln.queue) by
      refine ⟨hframe, fun h => absurd h hs, fun hr => ⟨_, v.setReasons_redirected _, (h hr).1⟩, fun hr => ?_,
        fun hr => ?_⟩
      · rw [(h hr).2.1]; simp [hs]
      · rw [(h hr).2.2]; simp [hs]
    intro hr
    obtain ⟨hf, hq, hl, -, -, hfl⟩ := v.setFlow_frame v.ln.flowOf
    generalize hw : v.setReasons { v.ln.port.reasons with flow := v.ln.flowOf } = w at hf hq hl hfl
    have hon : w.ln.on = v.ln.on := by simp only [Lane.on, hf.ln.power]
    have hlive : w.ln.liveOf .scannerHeld = v.ln.liveOf .scannerHeld := by simp only [Lane.liveOf, hl]
    have hrep : (w.setLive .scannerHeld v.ln.flowOf).ln.modeOf .scannerHeld = v.ln.modeOf .scannerHeld := by
      simp only [Lane.modeOf, LaneView.setLive, LaneView.setLives_ln_set, hf.ln.set]
    have hcount : (w.setLive .scannerHeld v.ln.flowOf).ln.count = v.ln.count := by
      simp [Lane.count, LaneView.setLive, hq]
    have hend : ((w.setLive .scannerHeld v.ln.flowOf).enqueue (.condition .scannerHeld v.ln.flowOf)).ln.flowVerdict =
        none := by
      refine Lane.flow_settles v.ln _ v.ln.flowOf hr hv hf.ln.set ?_ ?_ hfl
      · simp [LaneView.enqueue, LaneView.setLive, Lane.count, hq]
      · simp [LaneView.enqueue, LaneView.setLive, hq, RecordBody.slots]
    rw [show flowFuel = 1 + 1 from rfl]
    unfold LaneView.evalFlow
    rw [hv]
    dsimp only
    rw [hw, hon, hlive, LaneView.evalFlow_none _ _ hend, hrep, LaneView.takes_classB _ _ rfl, hcount]
    simp only [← Lane.reports_iff]
    cases hn : v.ln.on
    · simp [hq, hlive]
    · by_cases hh : v.ln.liveOf .scannerHeld = v.ln.flowOf
      · simp [hh, hq, hlive]
      · have hh' : v.ln.flowOf ≠ v.ln.liveOf .scannerHeld := fun e => hh e.symm
        simp only [hh, hh', ne_eq, not_false_eq_true, decide_true, Bool.and_self, if_true, true_and]
        cases hm : (v.ln.modeOf .scannerHeld).reports v.ln.flowOf
        · exact ⟨rfl, LaneView.setLive_self w _ _, hq⟩
        · by_cases hc : v.ln.count < 32
          · simp only [hc, decide_true, if_true]
            refine ⟨rfl, LaneView.setLive_self w _ _, ?_⟩
            simp [LaneView.setLive, LaneView.enqueue, hq, Lane.taking, LaneView.record, hf.id, hf.now]
          · simp only [hc, decide_false, if_true, if_false, Bool.false_eq_true]
            refine ⟨rfl, LaneView.setLive_self w _ _, ?_⟩
            simp [LaneView.setLive, LaneView.refuse, RecordBody.classA, hq, Lane.losing]

/-! ### Offering and handing over -/

/-- A record taken, and FLOW evaluated (R93). -/
theorem LaneView.offer_takes (v : LaneView) (b : RecordBody) (h : v.takes b = true) :
    (v.ln.taking v.id v.now b).FlowEvaluated (v.offer b).ln v.id v.now := by
  have he := (v.enqueue b).evalFlow_evaluated
  rw [LaneView.offer, if_pos h]
  exact he

/-- A class B record offered (R91, R93, R95). -/
theorem LaneView.offer_offered (v : LaneView) (b : RecordBody) (hb : b.classA = false) :
    v.ln.Offered (v.offer b).ln v.id v.now b := by
  refine ⟨fun h => v.offer_takes b (by rw [v.takes_classB b hb]; simpa using h), fun h => ?_⟩
  rw [v.offer_refusedB b (by rw [v.takes_classB b hb]; simpa using h) hb]
  rfl

/-- A live state handed over (R132, R133). -/
theorem LaneView.handOver_handedOver (v : LaneView) (c : Condition) (live : Bool) :
    v.ln.HandedOver (v.handOver c live).ln v.id v.now c live := by
  have hm : (v.setLive c live).ln.modeOf c = v.ln.modeOf c := rfl
  unfold LaneView.handOver
  dsimp only
  rw [hm]
  refine ⟨?_, ?_, ?_⟩
  · rintro (h | h) <;> simp [h]
  · intro h1 h2 h3
    rw [← Lane.reports_iff] at h3
    simp [h1, h2, h3, LaneView.setLive, LaneView.setLives, Lane.withLive]
  · intro h1 h2 h3
    rw [← Lane.reports_iff] at h3
    have ho := (v.setLive c live).offer_offered (.condition c live) rfl
    simp only [h1, h2, h3, ne_eq, not_false_eq_true, decide_true, Bool.and_self, if_true]
    exact ho

/-- The close of an event (R138). -/
theorem LaneView.closeCounters_closed (v : LaneView) (before : Counters) :
    v.ln.Closed (v.closeCounters before).ln v.id v.now before := by
  unfold LaneView.closeCounters
  refine ⟨fun h => by rw [if_pos h], fun h => ?_⟩
  rw [if_neg h]
  exact v.handOver_handedOver _ _

/-! ### The end of a check and the leaving of a lane -/

/-- The lane after step 1 of R170: the byte in progress cut, the check timer stopped, a pending insert dropped, the check
still running. -/
abbrev Lane.cutting (d : Lane) : Lane :=
  { d with checker := { d.checker with sending := none, timer := none, insert := false } }

/-- Steps 1 to 3 of R170: the CHECK record is offered while the check runs, and then the check is idle. -/
theorem LaneView.closeCheck_closes (v : LaneView) (cause : EndCause) :
    ∃ reported : Lane,
      v.ln.cutting.Offered reported v.id v.now (v.ln.checker.report cause) ∧
        (v.closeCheck cause).ln =
          { reported with checker := { reported.checker with state := .idle, sent := [], run := 0, history := [] } } :=
  ⟨_, (v.setChecker v.ln.checker.cut).offer_offered (v.ln.checker.report cause) rfl, rfl⟩

/-- The end of a check stays on its lane and at its time. -/
theorem LaneView.closeCheck_view (v : LaneView) (cause : EndCause) :
    (v.closeCheck cause).id = v.id ∧ (v.closeCheck cause).now = v.now :=
  have hf := (v.setChecker v.ln.checker.cut).offer_frame (v.ln.checker.report cause)
  ⟨hf.id, hf.now⟩

/-- Everything a leaving does to its lane: the CHECK record of a running check, the reset, the LANE record (R6, R7, R170). -/
theorem LaneView.leaveFor_leaves (v : LaneView) (dest : LaneState) :
    ∃ m : Lane,
      (v.ln.checking = false → m = v.ln.departed dest) ∧
      (v.ln.checking = true →
        ∃ reported : Lane,
          v.ln.cutting.Offered reported v.id v.now (v.ln.checker.report .lane) ∧ m = reported.departed dest) ∧
      m.Offered (v.leaveFor dest).ln v.id v.now (.lane dest v.ln.leavingProgress) := by
  cases h : v.ln.checking
  · refine ⟨v.ln.departed dest, fun _ => rfl, by simp, ?_⟩
    unfold LaneView.leaveFor
    rw [h]
    exact LaneView.offer_offered { v with ln := v.ln.leave dest } (.lane dest v.ln.leavingProgress) rfl
  · obtain ⟨reported, ho, he⟩ := v.closeCheck_closes .lane
    refine ⟨reported.departed dest, by simp, fun _ => ⟨reported, ho, rfl⟩, ?_⟩
    have hl := LaneView.offer_offered { v.closeCheck .lane with ln := (v.closeCheck .lane).ln.leave dest }
      (.lane dest v.ln.leavingProgress) rfl
    have hd : (v.closeCheck .lane).ln.leave dest = reported.departed dest := by rw [he]; rfl
    obtain ⟨hi, hn⟩ := v.closeCheck_view .lane
    unfold LaneView.leaveFor
    rw [h, if_pos rfl]
    simp only [hi, hn, hd] at hl ⊢
    exact hl

end Sys2Proof.Machine
end

