-- ==== Sys2Proof/Tests/Slice0.lean ====
section
/-!
SUPPORT. Tests. The expected values come from the worked sequences and tables of spec/, named beside each test, or are
worked out by hand from the rule named. After them, for each obligation with hypotheses, a state and operands that meet
them.
-/

namespace Sys2Proof.Tests

open Sys2Proof.Machine

/-! ### Helpers -/

/-- The state a command leaves. -/
def after (c : Instr) (s : State) : State :=
  match exec c s with
  | .next t => t
  | .fault _ => s
  | .refused _ => s

/-- The machine after reset at a later time. -/
def at_ (now : Time) : State := { State.reset with timeBase := now }

/-- The machine at a time with a lane 2 of its own. -/
def with2 (now : Time) (d : Lane) : State := (at_ now).withLaneAs 2 d

/-- Lane 2 of a state. -/
abbrev lane2 (s : State) : Lane := s.lanes[(2 : LaneId)]

/-- Lane 2 after a command. -/
def lane2After (c : Instr) (s : State) : Lane := lane2 (after c s)

/-- The reply a command leaves last: its code and the bytes after it. -/
def reply (c : Instr) (s : State) : Option (ReplyCode × List Byte) :=
  (after c s).link.replies.getLast?.map fun r => (r.code, r.body)

/-- The code of the reply a command leaves last. -/
def code (c : Instr) (s : State) : Option ReplyCode := (reply c s).map Prod.fst

/-- The bodies of a lane's records. -/
def bodies (d : Lane) : List RecordBody := d.queue.records.map LaneRecord.body

/-- A lane that has been ON since long ago: keylock OPERATE, drawer CLOSED, line state 'E'. -/
def onLane : Lane :=
  { Lane.reset with
    power := { state := .on, progress := some 7, start := some 0, timer := none, pen := true }
    keys := { KeyScanner.reset with keylock := .operate }
    port :=
      { ScannerPort.reset with
        brk := { absent := false, held := some { level := .mark, since := 100 }, timer := none }
        lineState := some .enabled }
    drawer := { Drawer.reset with state := .closed, sense := some .closed } }

/-- The lane with another drawer controller. -/
def drawer (f : Drawer → Drawer) (d : Lane) : Lane := { d with drawer := f d.drawer }

/-- The lane with another scanner port. -/
def port (f : ScannerPort → ScannerPort) (d : Lane) : Lane := { d with port := f d.port }

/-- The lane with another key matrix scanner. -/
def keys (f : KeyScanner → KeyScanner) (d : Lane) : Lane := { d with keys := f d.keys }

/-- The lane with other live settings. -/
def sets (f : LaneSet → LaneSet) (d : Lane) : Lane := { d with set := f d.set }

/-- The lane with another line checker. -/
def checker (f : LineChecker → LineChecker) (d : Lane) : Lane := { d with checker := f d.checker }

/-- The lane with this many KEY_UP records of lane 2 in its queue. -/
def holding (n : Nat) (d : Lane) : Lane :=
  { d with
    queue :=
      { records := (List.range n).map fun i => { lane := 2, seq := BitVec.ofNat 16 i, time := 5, lost := 0, body := .keyUp 0 }
        seq := BitVec.ofNat 16 n, loss := 0, held := 0 } }

/-- The lane with a line check in HUNT. -/
def checking (d : Lane) : Lane :=
  { d with
    port := { d.port with reasons := { d.port.reasons with check := true }, cmds := [] }
    checker := { LineChecker.reset with state := .hunt, timer := some 20000, reg := 0x22AC, sent := [0xAC], bytesSent := 1, sending := some 0xAC } }

/-- The drawer with its pulse running. -/
def releasing (point : Time) (d : Drawer) : Drawer := { d with state := .releasing, drv := true, pulse := some point }

/-- Lane 2 settling, its next milestone due at 9. -/
def settling (progress : Option Milestone) (start : Time) : Lane :=
  { Lane.reset with power := { state := .settling, progress := progress, start := some start, timer := some 9, pen := true } }

/-- The characters of a string of digits. -/
def digits (ds : List Nat) : List Byte := ds.map charOf

/-- Class N, 2123456012996 (section 4.8). -/
def codeX : Code := { cls := .numeric, chars := digits [2, 1, 2, 3, 4, 5, 6, 0, 1, 2, 9, 9, 6] }

/-- The fields of entry 3 of section 4.8. -/
def entry3 : RuleFields :=
  { active := 1, cls := 0x4E, minLen := 13, maxLen := 13, patLen := 2
    pattern := #v[0x32, 0x31, 0, 0, 0, 0, 0, 0], check := 1, valuePresent := 1, start := 8, count := 5, scale := 2
    action := 0, tag := 2 }

/-- The rule table of section 4.8, entry 3 alone. -/
def table3 : Vector CodeRule 16 := (Vector.replicate 16 CodeRule.reset).set 3 (entry3.entry .numeric)

/-- The default settings as a LANECFG carries them (R12, R21, R43, R44, R110). -/
def cfgFields : LaneCfgFields :=
  { settle := 4, rows := 8, cols := 16, period := 5, debounce := 3, typDelay := 500, typPeriod := 100
    releaseKey := 0xFF, rate := 9600, gap := 20, pulse := 50, confirm := 500 }

/-- The default settings as a LANESET carries them. -/
def setFields : LaneSetFields :=
  { confirmTones := 0, inhibitOpen := 0, strict := 0, valueLimit := 999999, dupWindow := 500, quota := 12, high := 24
    low := 16, openLong := 60, hostMask := 0, keyMask := 2, consume := 0, modes := Vector.replicate 8 1
    counterMode := 0, interval := 60, priority := 1 }

/-! ### Well-formed commands, words and steps -/

theorem test_status_lane_0xFF_is_ill_formed :
    Instr.wellFormed (.statusLane 1 0xFF) = false ∧ Instr.wellFormed (.statusLane 1 7) = true := by decide

theorem test_fetch_lane_0xFF_is_ill_formed :
    Instr.wellFormed (.fetchLane 1 0xFF 8) = false ∧ Instr.wellFormed (.fetchLane 1 8 8) = true := by decide

theorem test_no_word_spells_a_command : decodeTableWord 0 0 = none ∧ decodeTableWord 32 0xFFFFFFFF = none := by decide

theorem test_a_word_leaves_the_queue_alone : State.reset.withFetchWord 16 0x0101 = State.reset := rfl

/-- R191: the time base wraps. -/
theorem test_idle_millisecond_wraps : step (at_ 0xFFFFFFFF) = .next (at_ 0) := rfl

theorem test_step_takes_the_front :
    step { at_ 5 with pending := [.ident 1, .unlock 2] } = exec (.ident 1) { at_ 5 with pending := [.unlock 2] } := rfl

/-! ### Worked values -/

/-- R174. -/
theorem test_crc_of_nine_characters :
    crcOf [0x31, 0x32, 0x33, 0x34, 0x35, 0x36, 0x37, 0x38, 0x39] = 0x29B1 := by decide +kernel

/-- R163 and section 9.8: b1 is 0xAC. -/
theorem test_first_check_byte : nextSequence 0xACE1 = 0x22AC := by decide

/-- Section 3.7: the BCC of class N, 47110267. -/
theorem test_bcc : Code.bcc { cls := .numeric, chars := digits [4, 7, 1, 1, 0, 2, 6, 7] } = 0x4E := by decide

/-- Section 4.8: value 1299, lookup key 2123456000009, and the misread 2123456012997. -/
theorem test_price_embedded_code :
    judge table3 LaneSet.reset codeX =
        .pass (some 3) 2 true
          (some { value := 1299, scale := 2, lookup := digits [2, 1, 2, 3, 4, 5, 6, 0, 0, 0, 0, 0, 9] }) ∧
      judge table3 LaneSet.reset { codeX with chars := digits [2, 1, 2, 3, 4, 5, 6, 0, 1, 2, 9, 9, 7] } =
        .reject .check (some 3) := by decide

/-- Section 4.8: 1299 is above a limit of 1000; 2012345012509 satisfies its check. -/
theorem test_value_limit_and_weighed_item :
    judge table3 { LaneSet.reset with valueLimit := 1000 } codeX = .reject .valueLimit (some 3) ∧
      mod10Passes (digits [2, 0, 1, 2, 3, 4, 5, 0, 1, 2, 5, 0, 9]) = true := by decide

/-- R43: 14400 lies halfway between 9600 and 19200; R75: 495 lies halfway between 490 and 500. -/
theorem test_halfway_values : nearestRate 14400 = 9600 ∧ nearestRate 14401 = 19200 ∧ nearestWindow 495 = 490 := by
  decide

/-- R158: with a pointer of 3 the lanes are tried in this order. -/
theorem test_rotation_order : lanesAfter 3 = [4, 5, 6, 7, 0, 1, 2, 3] := by decide

/-- R24: three corners of a rectangle are not ambiguous, four are. -/
theorem test_rectangle :
    ambiguous (LaneCfg.reset.rawDown ((1 <<< 18) ||| (1 <<< 22) ||| (1 <<< 66))) = false ∧
      ambiguous (LaneCfg.reset.rawDown ((1 <<< 18) ||| (1 <<< 22) ||| (1 <<< 66) ||| (1 <<< 70))) = true := by decide +kernel

/-! ### Requests -/

/-- R182, R190. -/
theorem test_ident_reads_and_clears_the_flag :
    reply (.ident 1) State.reset = some (.done, [0x4B, 0x38, 2, 8, 96, 32, 16, 0, 1]) ∧
      (after (.ident 1) State.reset).resetFlag = false := by decide

/-- R183, R190: an ON lane with progress 7. -/
theorem test_status_lane_bytes :
    reply (.statusLane 1 2) (with2 9 onLane) =
      some (.done, [2, 7, 1, 1, 0, 0, 0, 0, 0, 0, 0, 0xFF, 0xFF, 0xFF, 0xFF, 0xFF, 0xFF]) := by decide

/-- R184, R190. -/
theorem test_status_device_bytes :
    reply (.statusDevice 1) (at_ 0x01020304) = some (.done, [4, 3, 2, 1, 0, 0, 96, 0, 0, 0]) := by decide

/-- R185, R190: the defaults of chapters 1, 2, 3 and 6. -/
theorem test_lanecfg_reads_the_defaults :
    reply (.laneCfgRead 1 2) (at_ 0) =
      some (.done, [4, 8, 16, 5, 3, 0xF4, 1, 100, 0, 0xFF, 0x80, 0x25, 0, 0, 20, 50, 0xF4, 1]) := by decide

/-- R14, R180. -/
theorem test_lanecfg_write_clamps_or_is_refused :
    code (.laneCfgWrite 1 2 { cfgFields with rows := 9 }) (at_ 0) = some .clamped ∧
      code (.laneCfgWrite 1 2 { cfgFields with releaseKey := 128 }) (at_ 0) = some .badField ∧
      code (.laneCfgWrite 1 2 cfgFields) (with2 9 onLane) = some .laneActive := by decide

/-- R186, R190: the defaults of chapters 3 to 8. -/
theorem test_laneset_reads_the_defaults :
    reply (.laneSetRead 1 2) (at_ 0) =
      some (.done, [0, 0, 0, 0x3F, 0x42, 0x0F, 0, 0xF4, 1, 12, 24, 16, 60, 0, 0, 2, 0, 1, 1, 1, 1, 1, 1, 1, 1, 0, 60, 1]) :=
  by decide

/-- R102: the low-water mark is clamped against the high-water mark just stored. R187 step 4, R55, R104, R132: a high-water
mark at the count raises FLOW, with the 'D' and the SCANNER_HELD record. -/
theorem test_laneset_low_water_mark :
    code (.laneSetWrite 1 2 { setFields with high := 8 }) (at_ 0) = some .clamped ∧
      (lane2After (.laneSetWrite 1 2 { setFields with high := 8 }) (at_ 0)).set.low = 4 ∧
      (lane2After (.laneSetWrite 1 2 { setFields with high := 8 }) (with2 9 (holding 8 onLane))).port.cmds =
        [.enable .disabled] ∧
      (bodies (lane2After (.laneSetWrite 1 2 { setFields with high := 8 }) (with2 9 (holding 8 onLane)))).drop 8 =
        [.condition .scannerHeld true] := by decide

/-- R20: a keylock attribute at one position only. -/
theorem test_keymap_keylock_once :
    (lane2After (.keymap 1 2 120 1 3) (at_ 0)).keymap[(120 : KeyPos)] = .keylock .off ∧
      code (.keymap 1 2 121 1 3) (after (.keymap 1 2 120 1 3) (at_ 0)) = some .badField := by decide +kernel

/-- R20: the last position and the count past it. -/
theorem test_keymap_range :
    code (.keymap 1 2 127 1 2) (at_ 0) = some .done ∧ code (.keymap 1 2 127 2 2) (at_ 0) = some .badField := by decide

/-- R64 and section 4.8: the value field of entry 3 ends at 12; one place later it would take in the check digit. -/
theorem test_rule_value_field :
    (after (.rule 1 3 entry3) (at_ 0)).rules[(3 : RuleIdx)].value = some { start := 8, count := 5, scale := 2 } ∧
      code (.rule 1 3 { entry3 with start := 9 }) (at_ 0) = some .badField := by decide

/-- R66. -/
theorem test_ruleq_reads_back :
    reply (.ruleQ 1 3) (after (.rule 1 3 entry3) (at_ 0)) =
      some (.done, [1, 0x4E, 13, 13, 2, 0x32, 0x31, 0, 0, 0, 0, 0, 0, 1, 1, 8, 5, 2, 0, 2]) := by decide

/-- Section 1.9: POWER on at 40,000. -/
theorem test_power_on :
    (lane2After (.powerOn 1 2) (at_ 40000)).power.timer = some 40005 ∧
      bodies (lane2After (.powerOn 1 2) (at_ 40000)) = [.lane .settling none] := by decide

/-- Section 1.10: the fault still present as PENn is asserted. -/
theorem test_power_on_into_a_fault :
    bodies (lane2After (.powerOn 1 2) (after (.pflAssert 2) (at_ 5))) = [.lane .settling none, .lane .tripped none] := by
  decide

/-- R2: BUSY during a pulse; section 1.10: TRIPPED to OFF. -/
theorem test_power_off :
    code (.powerOff 1 2) (with2 9 (drawer (releasing 50) onLane)) = some .busy ∧
      bodies (lane2After (.powerOff 1 2) (with2 9 { Lane.reset with power := { PowerCtl.reset with state := .tripped } })) =
        [.lane .off none] := by decide

/-- Section 8.5, merging alarms: the FETCH ANY at 302,500. -/
theorem test_fetch_any_serves_alarms :
    reply (.fetchAny 1 1)
        { at_ 302500 with
          alarms :=
            [{ kind := .forcedOpen, lane := some 4, first := 300000, last := 302000, repeats := 2 },
              { kind := .powerTrip, lane := some 6, first := 300800, last := 300800, repeats := 1 }]
          attn := true } =
      some (.done, [0xFE, 1, 1, 0, 11, 1, 4, 0xE0, 0x93, 4, 0, 0xB0, 0x9B, 4, 0, 2]) := by decide

/-- A lane held by FLOW alone, as the scanner knows. -/
def held (d : Lane) : Lane :=
  { port (fun p => { p with reasons := { p.reasons with flow := true }, lineState := some .disabled }) d with
    live := d.live.set Condition.scannerHeld.idx true }

/-- Section 5.7: FETCH of a lane with 32 records, maximum 4; R151: a maximum of 0 is taken as 1. R103, R104, R55: at 16
records FLOW is removed, and the 'E' follows. -/
theorem test_fetch_lane :
    (lane2After (.fetchLane 1 2 4)
        (with2 9 (port (fun p => { p with reasons := { p.reasons with flow := true } }) (holding 32 onLane)))).count = 28 ∧
      code (.fetchLane 1 2 0) (with2 9 (holding 32 onLane)) = some .clamped ∧
      (lane2After (.fetchLane 1 2 7) (with2 9 (held (holding 24 onLane)))).port.cmds = [] ∧
      (lane2After (.fetchLane 1 2 8) (with2 9 (held (holding 24 onLane)))).port.cmds = [.enable .enabled] := by decide

/-- Section 6.7: the grant at 70,010, and the denial for want of FLAG_A. -/
theorem test_release :
    (lane2After (.release 1 2)
        (with2 70010 (drawer (fun x => { x with flags := 1 }) (sets (fun x => { x with hostMask := 5, consume := 1 }) onLane)))).drawer =
        { onLane.drawer with state := .releasing, drv := true, pulse := some 70060 } ∧
      reply (.release 1 2) (with2 95100 (sets (fun x => { x with hostMask := 5, consume := 1 }) onLane)) =
        some (.denied, [4]) := by decide

/-- R113, section 6.7: the latch is checked ahead of the drawer state. -/
theorem test_release_under_lockdown :
    reply (.release 1 2) { with2 90100 (drawer (fun x => { x with state := .opened }) onLane) with lockdown := true } =
      some (.lockedDown, [0]) := by decide

/-- R111: a flag named in both lists ends set. -/
theorem test_flags :
    (lane2After (.flags 1 2 1 3) (with2 9 (drawer (fun x => { x with flags := 2 }) onLane))).drawer.flags = 1 ∧
      code (.flags 1 2 16 0) (with2 9 onLane) = some .badField := by decide

/-- Section 3.7: INHIBIT on at 9200 under DRAWER leaves the command queue alone. -/
theorem test_inhibit_on :
    (lane2After (.inhibitOn 1 2)
        (with2 9200 (port (fun p => { p with reasons := { p.reasons with drawer := true }, lineState := some .disabled })
          onLane))).port.cmds = [] ∧
      code (.inhibitOn 1 2) (at_ 9200) = some .notReady := by decide

/-- Section 3.7: INHIBIT off at 9900. -/
theorem test_inhibit_off :
    (lane2After (.inhibitOff 1 2)
        (with2 9900 (port (fun p => { p with reasons := { p.reasons with host := true }, lineState := some .disabled })
          onLane))).port.cmds = [.enable .enabled] := by decide

/-- R54, R62: three tones waiting behind the head; BAD_FIELD before the line check. -/
theorem test_tone :
    code (.tone 1 2 0) (with2 9 (port (fun p => { p with cmds := [.tone .good, .tone .good, .tone .bad] }) onLane)) =
        some .done ∧
      code (.tone 1 2 0)
          (with2 9 (port (fun p => { p with cmds := [.tone .good, .tone .good, .tone .bad, .tone .bad] }) onLane)) =
        some .busy ∧
      code (.tone 1 2 2) (with2 9 (checking onLane)) = some .badField := by decide

/-- Section 7.6: COUNTS with clear at 200,500, COUNTER_FULL falling under BOTH. -/
theorem test_counts :
    bodies (lane2After (.counts 1 2 1)
        (with2 200500
          { onLane with
            set := { LaneSet.reset with modes := LaneSet.reset.modes.set 7 .both }
            live := (Vector.replicate 8 false).set 7 true
            counters := { Counters.zero with overrun := 65535 } })) = [.condition .counterFull false] ∧
      reply (.counts 1 2 0) (with2 9 { onLane with counters := { Counters.zero with overrun := 65535 } }) =
        some (.done, [0, 0, 0, 0, 0, 0, 0, 0, 0xFF, 0xFF, 0, 0]) := by decide

/-- Section 9.8: CHECK start; R162: a duration of 61 is taken as 60. -/
theorem test_check_start :
    (lane2After (.checkStart 1 2 10) (with2 1000 onLane)).checker.sent = [0xAC] ∧
      (lane2After (.checkStart 1 2 10) (with2 1000 onLane)).checker.timer = some 11000 ∧
      code (.checkStart 1 2 61) (with2 1000 onLane) = some .clamped := by decide

/-- Section 9.8: CHECK stop. -/
theorem test_check_stop :
    bodies (lane2After (.checkStop 1 2)
        (with2 9 (checker (fun c => { c with state := .locked, bytesSent := 100, bytesMatched := 98, mismatches := 1 })
          (checking onLane)))) = [.check 100 98 1 0 true .host] ∧
      (lane2After (.checkStop 1 2) (with2 9 (checking onLane))).port.cmds = [.enable .enabled] := by decide

/-- R168: one insert may be pending. -/
theorem test_check_insert :
    (lane2After (.checkInsert 1 2) (with2 9 (checking onLane))).checker.insert = true ∧
      code (.checkInsert 1 2) (after (.checkInsert 1 2) (with2 9 (checking onLane))) = some .busy := by decide

/-- Section 6.7: an UNLOCK while LKD is still asserted. -/
theorem test_unlock :
    code (.unlock 1) { at_ 90200 with lockdown := true, lkdLevel := true, lkdPin := true } = some .stillAsserted ∧
      (after (.unlock 1) { at_ 90200 with lockdown := true }).lockdown = false := by decide

/-- Section 6.7: CLRFAULT at 82,500, with no record under RISE. -/
theorem test_clrfault :
    (lane2After (.clrFault 1 2)
        (with2 82500 (drawer (fun x => { x with fault := true })
          { onLane with live := (Vector.replicate 8 false).set 6 true }))).live = Vector.replicate 8 false ∧
      bodies (lane2After (.clrFault 1 2)
        (with2 82500 (drawer (fun x => { x with fault := true })
          { onLane with live := (Vector.replicate 8 false).set 6 true }))) = [] := by decide

/-- R189. -/
theorem test_restart :
    (after (.restart 1) (at_ 9)).link.restartPending = true ∧ code (.restart 1) (at_ 9) = some .done ∧
      (after (.ident 2) (after (.restart 1) (at_ 9))).link.replies.length = 1 := by decide

/-! ### The host link and device reset -/

/-- R175, R176: LEN 1031 discards the frame, LEN 1030 does not. -/
theorem test_host_bytes :
    (after (.hostByteArrival 4 false) (after (.hostByteArrival 7 false) (after (.hostByteArrival 0xC3 false) (at_ 9)))).link.errors = 1 ∧
      (after (.hostByteArrival 4 false) (after (.hostByteArrival 6 false) (after (.hostByteArrival 0xC3 false) (at_ 9)))).link.rx.state =
        .body := by decide

/-- R175: the gap timer is 10 ms; R176. -/
theorem test_host_gap :
    (after .hostGapExpiry { after (.hostByteArrival 0xC3 false) (at_ 9) with timeBase := 19 }).link.errors = 1 ∧
      (after .hostGapExpiry { after (.hostByteArrival 0xC3 false) (at_ 9) with timeBase := 18 }).link.errors = 0 := by decide

/-- R178. -/
theorem test_reply_sent :
    (after .replySent (after (.statusDevice 2) (after (.ident 1) (at_ 9)))).link.replies.map Reply.tag = [2] := by decide

/-- R172, R173, R178: HTX carries the frame of the head reply, here of an UNLOCK (LEN 3, kind 0x90, tag 7, DONE), and then
rests at mark. -/
theorem test_htx :
    (after (.unlock 7) (at_ 9)).htx =
        .reply ([0xC3, 0x03, 0x00, 0x90, 0x07, 0x00] ++ bytes16 (crcOf [0x03, 0x00, 0x90, 0x07, 0x00])) ∧
      (after .replySent (after (.unlock 7) (at_ 9))).htx = .mark ∧
      (after .rstAssert (after (.unlock 7) (at_ 9))).htx = .mark := by decide +kernel

/-- R182, R189. -/
theorem test_restart_reset :
    (after .restartReset (after .replySent (after (.restart 1) (at_ 9)))).resetCause = .restart ∧
      (after .restartReset (after (.restart 1) (at_ 9))).timeBase = 9 := by decide

/-- R188: the part is held, and no lane is powered. -/
theorem test_power_on_reset :
    (after .powerOnReset (with2 9 onLane)).held = true ∧
      (lane2After .powerOnReset (with2 9 onLane)).power.pen = false := by decide

/-- R172, R188: both straps high; an asserted LKD. -/
theorem test_power_on_reset_end :
    (after (.powerOnResetEnd .high .high) (after .lkdAssert (after .powerOnReset (at_ 9)))).link.rate = .r460800 ∧
      (after (.powerOnResetEnd .high .high) (after .lkdAssert (after .powerOnReset (at_ 9)))).alarms =
        [{ kind := .lockdown, lane := none, first := 0, last := 0, repeats := 1 }] := by decide

/-- R188, R189: RST ends a pending RESTART. -/
theorem test_rst :
    (after .rstAssert (after (.restart 1) (at_ 9))).link.restartPending = false ∧
      (after (.rstRelease .low .high) (after .rstAssert (at_ 9))).resetCause = .rst ∧
      (after (.rstRelease .low .high) (after .rstAssert (at_ 9))).link.rate = .r115200 := by decide

/-! ### Lane events -/

/-- Section 1.10: a trip during a line check. R170 step 2, R104: a CHECK record that adds FLOW is followed by the SCANNER_HELD
record, both ahead of the LANE record. -/
theorem test_trip_during_a_check :
    bodies (lane2After (.pflAssert 2) (with2 9 (checking onLane))) =
        [.check 1 0 0 0 false .lane, .lane .tripped (some 7)] ∧
      (after (.pflAssert 2)
          { with2 9 (checking onLane) with
            alarms := [{ kind := .powerTrip, lane := some 2, first := 3, last := 3, repeats := 1 }] }).alarms =
        [{ kind := .powerTrip, lane := some 2, first := 3, last := 9, repeats := 2 }] ∧
      (let d := lane2After (.pflAssert 2) (with2 9 (holding 23 (checking onLane)))
       (bodies d).drop 23 = [.check 1 0 0 0 false .lane, .condition .scannerHeld true, .lane .tripped (some 7)] ∧
         d.liveOf .scannerHeld = false ∧ d.port.cmds = [] ∧
         d.port.reasons = { host := false, flow := true, drawer := false, check := false }) := by decide

/-- R7: a deassertion has no effect on the lane state. -/
theorem test_pfl_deassert :
    (lane2After (.pflDeassert 2) (after (.pflAssert 2) (with2 9 onLane))).power.state = .tripped ∧
      (lane2After (.pflDeassert 2) (after (.pflAssert 2) (with2 9 onLane))).pins.pfl = false := by decide

/-- Section 1.9: the expiry at 40,100. R11, R95, R53: at 32 records the LANE ON record is lost and the 'E' sent. R134: the
SCANNER_HELD record of a FLOW that stands, then the COUNTER_FULL record, follow LANE ON. -/
theorem test_entering_on :
    bodies (lane2After (.settleExpiry 2)
        (with2 40100
          { Lane.reset with
            power := { state := .settling, progress := some 3, start := some 40000, timer := some 40100, pen := true } })) =
        [.lane .on (some 4)] ∧
      (lane2After (.settleExpiry 2)
        (with2 40100
          { Lane.reset with
            power := { state := .settling, progress := some 3, start := some 40000, timer := some 40100, pen := true } })).port.cmds =
        [.enable .enabled] ∧
      (let d := lane2After (.settleExpiry 2) (with2 9 (holding 32 (settling (some 3) 0xFFFFFFA5)))
       d.power.state = .on ∧ d.count = 32 ∧ d.queue.loss = 1 ∧ d.port.lineState = some .enabled) ∧
      (let d := lane2After (.settleExpiry 2)
          (with2 9 { holding 23 (settling (some 3) 0xFFFFFFA5) with counters := { Counters.zero with good := 65535 } })
       (bodies d).drop 23 = [.lane .on (some 4), .condition .scannerHeld true, .condition .counterFull true] ∧
         d.port.cmds = [.enable .disabled] ∧ d.port.lineState = some .disabled) := by decide +kernel

/-- Section 1.9: the expiry at 40,100 sets the settle timer to 40,200. -/
theorem test_milestone_after_on :
    (lane2After (.settleExpiry 2)
        (with2 40100
          { Lane.reset with
            power := { state := .settling, progress := some 3, start := some 40000, timer := some 40100, pen := true } })).power.timer =
      some 40200 := by decide

/-- Section 2.12, bounce on one key: the sample at 1025. -/
theorem test_sample_reports_a_key :
    bodies (lane2After (.sampleArrival 2 (1 <<< 37))
        (with2 1025
          (keys (fun k =>
              { k with cells := k.cells.set 37 { down := false, count := 2, mark := .none }, nextSample := some 1025 })
            { onLane with cfg := { LaneCfg.reset with rows := 3, cols := 6 } }))) = [.keyDown 37 .operate] := by decide +kernel

/-- Section 2.12, typematic on a repeating key: the expiry at 5500. -/
theorem test_typematic :
    bodies (lane2After (.typematicExpiry 2)
        (with2 5500 (keys (fun k => { k with downList := [99], typematic := some { point := 5500, pos := 99 } }) onLane))) =
        [.keyRepeat 99] ∧
      (lane2After (.typematicExpiry 2)
        (with2 5500 (keys (fun k => { k with downList := [99], typematic := some { point := 5500, pos := 99 } })
          onLane))).keys.typematic = some { point := 5600, pos := 99 } := by decide

/-- A frame of class N in assembly on lane 2. -/
def inFrame (chars : List Byte) (d : Lane) : Lane :=
  port (fun p => { p with rx := { state := .inFrame, cls := some .numeric, chars := chars, gap := some 8225, breakPending := false } }) d

/-- Section 3.7: the fresh SOH at 8206. -/
theorem test_fresh_soh :
    (lane2After (.scannerByteArrival 2 0x01 false)
        (with2 8206 (inFrame (digits [4, 7, 1, 1]) (sets (fun x => { x with confirmTones := true }) onLane)))).port.rx =
        { state := .inFrame, cls := none, chars := [], gap := some 8226, breakPending := false } ∧
      (lane2After (.scannerByteArrival 2 0x01 false)
        (with2 8206 (inFrame (digits [4, 7, 1, 1]) (sets (fun x => { x with confirmTones := true }) onLane)))).port.cmds =
        [.tone .bad] := by decide

/-- A complete frame of a code on lane 2, its BCC still to come. -/
def awaiting (c : Code) (d : Lane) : Lane :=
  port (fun p => { p with rx := { state := .awaitBcc, cls := some c.cls, chars := c.chars, gap := some 20020, breakPending := false } }) d

/-- Section 3.7: the BCC 0x4F at 8111. -/
theorem test_wrong_bcc :
    (lane2After (.scannerByteArrival 2 0x4F false)
        (with2 8111 (awaiting { cls := .numeric, chars := digits [4, 7, 1, 1, 0, 2, 6, 7] } onLane))).counters.frameErr = 1 :=
  by decide

/-- Section 4.8: the price-embedded code completed at 20,000. R61, R104: where its record raises FLOW, the 'D' is queued ahead
of the 'G'. -/
theorem test_frame_completion :
    bodies (lane2After (.frameCompletion 2) { with2 20000 (awaiting codeX onLane) with rules := table3 }) =
        [.scan codeX (some 3) 2 true false
          (some { value := 1299, scale := 2, lookup := digits [2, 1, 2, 3, 4, 5, 6, 0, 0, 0, 0, 0, 9] })] ∧
      (lane2After (.frameCompletion 2) { with2 20000 (awaiting codeX onLane) with rules := table3 }).filter =
        { last := some codeX, window := some 20500 } ∧
      (lane2After (.frameCompletion 2)
          (with2 20000 (holding 23 (awaiting codeX (sets (fun c => { c with confirmTones := true }) onLane))))).port.cmds =
        [.enable .disabled, .tone .good] := by decide

/-- R48, R46. -/
theorem test_scanner_gap :
    (lane2After (.scannerGapExpiry 2) (with2 8225 (inFrame [0x34] onLane))).counters.frameErr = 1 ∧
      (lane2After (.scannerGapExpiry 2) (with2 8224 (inFrame [0x34] onLane))).counters.frameErr = 0 := by decide

/-- Section 3.7: plugged back at 12,050. -/
theorem test_line_returns_before_the_break_time :
    (lane2After (.srxLevelChange 2 .mark)
        (with2 12050
          (port (fun p => { p with rx := { p.rx with breakPending := true } })
            { inFrame [0x34] onLane with pins := { LanePins.atReset with srx := .space } }))).counters.frameErr = 1 := by decide

/-- R51: a break character leaves a frame pending. -/
theorem test_break_character :
    (lane2After (.breakCharacter 2) (with2 12001 (inFrame [0x34] onLane))).port.rx.breakPending = true ∧
      (lane2After (.breakCharacter 2) (with2 12001 onLane)).port.rx.breakPending = false := by decide

/-- R43: a character of data bits and stop bit all at space is a break character, and no byte of a frame or a check. -/
theorem test_break_character_is_no_byte :
    (lane2After (.scannerByteArrival 2 0x00 true) (with2 12001 (inFrame [0x34] onLane))).port.rx =
        { state := .inFrame, cls := some .numeric, chars := [0x34], gap := some 8225, breakPending := true } ∧
      (lane2After (.scannerByteArrival 2 0x00 true) (with2 12001 (inFrame [0x34] onLane))).counters.frameErr = 0 ∧
      (lane2After (.scannerByteArrival 2 0x00 false) (with2 12001 (inFrame [0x34] onLane))).counters.frameErr = 1 ∧
      after (.checkByteArrival 2 0x00 true) (with2 9 (checking onLane)) = with2 9 (checking onLane) := by decide +kernel

/-- Section 3.7: the break timer at space at 12,100. -/
theorem test_scanner_absent :
    (lane2After (.breakTimerExpiry 2)
        (with2 12100
          (port (fun p => { p with brk := { absent := false, held := some { level := .space, since := 12000 }, timer := some 12100 } })
            (inFrame [0x34] onLane)))).counters.frameErr = 0 ∧
      bodies (lane2After (.breakTimerExpiry 2)
        (with2 12100
          (port (fun p => { p with brk := { absent := false, held := some { level := .space, since := 12000 }, timer := some 12100 } })
            (inFrame [0x34] onLane)))) = [.condition .scannerAbsent true] := by decide

/-- Section 3.7: the break timer at mark at 30,100. -/
theorem test_scanner_back :
    (lane2After (.breakTimerExpiry 2)
        (with2 30100
          (port (fun p => { p with brk := { absent := true, held := some { level := .mark, since := 30000 }, timer := some 30100 } })
            onLane))).port.cmds = [.enable .enabled] := by decide

/-- Section 3.7: the 'D' completes at 9004 and the 'E' behind it begins. -/
theorem test_command_sent :
    (lane2After (.commandSent 2)
        (with2 9004 (port (fun p => { p with cmds := [.enable .disabled, .enable .enabled], lineState := some .disabled })
          onLane))).port.lineState = some .enabled := by decide

/-- Section 6.7: DSN4 rises at 70,035. -/
theorem test_dsn_change :
    (lane2After (.dsnChange 2 .opened) (with2 70035 (drawer (releasing 70060) onLane))).drawer.stability =
      some { point := 70055, level := .opened } := by decide

/-- Section 6.7: closed at 95,020 after opening at 70,060. -/
theorem test_drawer_closes :
    bodies (lane2After (.senseStabilityExpiry 2)
        (with2 95020
          (drawer (fun x =>
              { x with state := .opened, sense := some .opened, openStart := some 70060, openLong := some 130060
                       stability := some { point := 95020, level := .closed } }) onLane))) =
      [.drawer .closed .closed none none (some 24960)] := by decide

/-- Section 6.7: forced open at 90,000 during lockdown. -/
theorem test_drawer_forced :
    (after (.senseStabilityExpiry 2)
        (with2 90000 (drawer (fun x => { x with stability := some { point := 90000, level := .opened } }) onLane))).alarms =
        [{ kind := .forcedOpen, lane := some 2, first := 90000, last := 90000, repeats := 1 }] ∧
      (lane2After (.senseStabilityExpiry 2)
        (with2 90000 (drawer (fun x => { x with stability := some { point := 90000, level := .opened } }) onLane))).drawer.openLong =
        some 150000 := by decide

/-- Section 6.7: the pulse expires at 70,060 with the sense open. -/
theorem test_pulse_expiry :
    bodies (lane2After (.pulseExpiry 2)
        (with2 70060
          (sets (fun x => { x with inhibitOpen := true })
            (drawer (fun x => { releasing 70060 x with sense := some .opened }) onLane)))) =
        [.drawer .opened .opened none none none] ∧
      (lane2After (.pulseExpiry 2)
        (with2 70060
          (sets (fun x => { x with inhibitOpen := true })
            (drawer (fun x => { releasing 70060 x with sense := some .opened }) onLane)))).port.cmds = [.enable .disabled] := by
  decide

/-- Section 6.7: DOC1 at 81,012. -/
theorem test_driver_fault :
    (lane2After (.docAssert 2) (with2 81012 (drawer (releasing 81050) onLane))).drawer.confirm = some 81512 ∧
      bodies (lane2After (.docAssert 2) (with2 81012 (drawer (releasing 81050) onLane))) =
        [.condition .driverFault true] := by decide

/-- Section 6.7: the confirm timer at 80,550. -/
theorem test_confirm_expiry :
    bodies (lane2After (.confirmExpiry 2)
        (with2 80550 (drawer (fun x => { x with state := .awaitOpen, confirm := some 80550 }) onLane))) =
      [.drawer .notOpened .closed none none none] := by decide

/-- R123: the record stands before the rise of DRAWER_LONG. -/
theorem test_open_long :
    bodies (lane2After (.openLongExpiry 2)
        (with2 130060 (drawer (fun x => { x with state := .opened, openLong := some 130060, openStart := some 70060 }) onLane))) =
      [.drawer .openLong .openLong none none none, .condition .drawerLong true] := by decide

/-- Section 11.4, R127: the pulse is cut; a second assertion of the same level is no event. -/
theorem test_lkd_assert :
    (lane2After .lkdAssert (with2 9 (drawer (releasing 50) onLane))).drawer.state = .awaitOpen ∧
      (after .lkdAssert (after .lkdAssert (at_ 9))).alarms =
        [{ kind := .lockdown, lane := none, first := 9, last := 9, repeats := 1 }] := by decide

/-- R127: a deassertion does not touch the latch. -/
theorem test_lkd_deassert :
    (after .lkdDeassert (after .lkdAssert (at_ 9))).lockdown = true ∧
      (after .lkdDeassert (after .lkdAssert (at_ 9))).lkdLevel = false := by decide

/-- Section 7.6: the expiries at 160,000 with room, and at 220,000 with a full queue. -/
theorem test_report_timer :
    (lane2After (.reportTimerExpiry 2)
        (with2 160000 { onLane with reportTimer := some 160000, counters := { Counters.zero with good := 412 } })).counters =
        Counters.zero ∧
      (lane2After (.reportTimerExpiry 2)
        (with2 220000
          { holding 32 onLane with reportTimer := some 220000, counters := { Counters.zero with good := 380 } })).counters.good =
        380 := by decide

/-- Section 7.6: the report timer goes from 160,000 to 220,000. -/
theorem test_report_timer_keeps_its_spacing :
    (lane2After (.reportTimerExpiry 2) (with2 160003 { onLane with reportTimer := some 160000 })).reportTimer =
      some 220000 := by decide

/-- Section 4.8: the window stops at 31,500 and the code is kept. -/
theorem test_window_expiry :
    (lane2After (.duplicateWindowExpiry 2)
        (with2 31500 { onLane with filter := { last := some codeX, window := some 31500 } })).filter =
      { last := some codeX, window := none } := by decide

/-- Section 4.8: the duplicate at 30,300 restarts the window. -/
theorem test_duplicate :
    (lane2After (.frameCompletion 2)
        (with2 30300 { awaiting codeX onLane with filter := { last := some codeX, window := some 30500 } })).filter.window =
      some 30800 := by decide

/-- R168: the inserted byte goes out inverted and is remembered as it is. -/
theorem test_check_byte_sent :
    (lane2After (.checkByteSent 2) (with2 9 (checker (fun c => { c with insert := true }) (checking onLane)))).checker.sent =
        [0xAC, (nextSequence 0x22AC).setWidth 8] ∧
      (lane2After (.checkByteSent 2) (with2 9 (checker (fun c => { c with insert := true }) (checking onLane)))).checker.sending =
        some ((nextSequence 0x22AC).setWidth 8 ^^^ 0xFF) := by decide

/-- Section 9.8: the arrival of b8 locks; R165: a stop-bit error does not matter. -/
theorem test_check_byte_locks :
    (lane2After (.checkByteArrival 2 0xAC true) (with2 9 (checker (fun c => { c with run := 7 }) (checking onLane)))).checker.state =
      .locked := by decide

/-- R166: the fourth mismatch loses the lock. -/
theorem test_check_byte_loses_the_lock :
    (lane2After (.checkByteArrival 2 0x00 false)
        (with2 9 (checker (fun c => { c with state := .locked, history := [false, true, false, false] }) (checking onLane)))).checker.lockLosses =
      1 := by decide

/-- R169, R170: the check timer ends the check with cause TIME. -/
theorem test_check_timer :
    bodies (lane2After (.checkTimerExpiry 2) (with2 20000 (checking onLane))) = [.check 1 0 0 0 false .time] ∧
      bodies (lane2After (.checkTimerExpiry 2) (with2 19999 (checking onLane))) = [] := by decide

/-! ### Witnesses

Each theorem below names states and operands that meet the hypotheses of one obligation, clause by clause, at the ends of
their ranges. -/

/-- A request that names lane 2 by its lane byte 2 is taken. -/
abbrev Sent (s : State) : Prop := s.ready ∧ (2 : Byte).toNat = (2 : LaneId).val

/-- An event of lane 2 is heard and lane 2 is ON. -/
abbrev HeardOn (s : State) : Prop := s.held = false ∧ (lane2 s).on = true

/-- A tripped lane. -/
def tripped : Lane := { Lane.reset with power := { PowerCtl.reset with state := .tripped } }

/-- Two replies wait. -/
def twoReplies : State := after (.statusDevice 2) (after (.ident 1) (at_ 9))

theorem witness_StepTakesTheFrontCommand : State.reset.pending = [] := rfl

theorem witness_CommandsStayInTheirLane :
    laneNamed (.powerOn 1 7) = some 7 ∧ laneNamed (.powerOn 1 8) = none ∧ (6 : LaneId) ≠ 7 := by decide

theorem witness_RequestsDiscardedAndInputsUnheard :
    (isRequest (.ident 3) = true ∧ twoReplies.held = false ∧ 2 ≤ twoReplies.link.replies.length) ∧
    (2 ≤ (after (.restart 2) (after (.ident 1) (at_ 9))).link.replies.length ∧
      (after (.restart 2) (after (.ident 1) (at_ 9))).link.restartPending = true) ∧
    (isRequest (.ident 3) = true ∧ (after (.restart 1) (at_ 9)).held = false ∧
      (after (.restart 1) (at_ 9)).link.replies.length < 2 ∧ (after (.restart 1) (at_ 9)).link.restartPending = true) ∧
    (isHoldRow .lkdAssert = false ∧ (after .rstAssert (at_ 9)).held = true) := by decide

theorem witness_IdentRestartAndReplySent :
    (at_ 9).ready ∧ (after (.ident 1) (at_ 9)).ready ∧ (at_ 9).link.replies = [] ∧
      (after .rstAssert (at_ 9)).held = true ∧ exec .powerOnReset twoReplies = .next (after .powerOnReset twoReplies) ∧
      twoReplies.held = false ∧ ∃ r rest, twoReplies.link.replies = r :: rest :=
  ⟨by decide, by decide, by decide, by decide, rfl, by decide, _, _, rfl⟩

theorem witness_StatusReportsTheState :
    Sent (at_ 9) ∧ (8 ≤ (8 : Byte).toNat ∧ (8 : Byte) ≠ 0xFF) ∧ 8 ≤ (0xFE : Byte).toNat ∧ (0xFE : Byte) ≠ 0xFF := by decide

theorem witness_RuleTableIsWrittenAndRead :
    ((at_ 9).ready ∧ (15 : Byte).toNat = (15 : RuleIdx).val ∧ entry3.store.isSome = true) ∧
    16 ≤ (16 : Byte).toNat ∧ RuleFields.store { entry3 with tag := 16 } = none := by decide

theorem witness_RuleAcceptedExactlyWhenValid :
    entry3.store = some (entry3.entry .numeric) ∧ entry3.Acceptable ∧
      RuleFields.store { entry3 with start := 9 } = none := by decide

theorem witness_KeymapGivesOneAttribute :
    (Sent (with2 9 onLane) ∧ (lane2 (with2 9 onLane)).powered = true) ∧
    (Sent (at_ 9) ∧ (lane2 (at_ 9)).powered = false ∧ KeyAttr.ofByte 2 = some .unused ∧ (0 : Byte).toNat ≤ 127 ∧
      (0 : Byte).toNat + (128 : Byte).toNat ≤ 128) ∧
    (KeyAttr.ofByte 6 = some (.keylock .training) ∧ (127 : Byte).toNat + (1 : Byte).toNat ≤ 128 ∧
      ∀ p : KeyPos, p.val ≠ (127 : Byte).toNat → (lane2 (at_ 9)).keymap[p] ≠ .keylock .training) ∧
    (7 ≤ (7 : Byte).toNat ∧ 127 < (128 : Byte).toNat ∧ 128 < (127 : Byte).toNat + (2 : Byte).toNat) ∧
    (3 ≤ (3 : Byte).toNat ∧ 2 ≤ (2 : Byte).toNat) ∧
    ∃ p : KeyPos, p.val ≠ (121 : Byte).toNat ∧
      some (lane2 (after (.keymap 1 2 120 1 3) (at_ 9))).keymap[p] = KeyAttr.ofByte 3 :=
  ⟨by decide, by decide, by decide +kernel, by decide, by decide, 120, by decide +kernel⟩

theorem witness_LaneCfgStoresTheStaticSettings :
    (Sent (with2 9 onLane) ∧ (lane2 (with2 9 onLane)).powered = true) ∧
    (Sent (with2 9 tripped) ∧ (lane2 (with2 9 tripped)).powered = false ∧ 128 ≤ (128 : Byte).toNat ∧ (0xFE : Byte) ≠ 0xFF) ∧
    Sent (at_ 9) ∧ (lane2 (at_ 9)).powered = false ∧ (127 : Byte).toNat < 128 := by decide

theorem witness_ClampedFieldsTakeTheNearestValue :
    ((5 : Nat) ≤ 5 ∧ (5 : Nat) ≤ 50) ∧ (115200 : Nat) ∈ [9600, 19200, 38400, 57600, 115200] ∧ (255 : Nat) ≤ 255 := by decide

theorem witness_LaneSetStoresAndActs :
    (Sent (at_ 9) ∧ ¬(16 : Byte).toNat < 16) ∧
    (Sent (with2 9 onLane) ∧ setFields.confirmTones.toNat ≤ 1 ∧ setFields.inhibitOpen.toNat ≤ 1 ∧
      setFields.strict.toNat ≤ 1 ∧ setFields.hostMask.toNat < 128 ∧ setFields.keyMask.toNat < 128 ∧
      (15 : Byte).toNat < 16 ∧ (∀ i : Fin 8, setFields.modes[i].toNat ≤ 2) ∧ setFields.counterMode.toNat ≤ 1) ∧
    ((lane2 (with2 9 onLane)).set.InRange ∧ (with2 9 onLane).attn = (with2 9 onLane).waiting ∧
      Sent (with2 9 (holding 8 onLane)) ∧
      (lane2After (.laneSetWrite 1 2 { setFields with high := 8 }) (with2 9 (holding 8 onLane))).port.reasons.flow ≠
        (lane2 (with2 9 (holding 8 onLane))).port.reasons.flow) := by decide

theorem witness_PowerFollowsTheLaneState :
    (Sent (with2 9 (settling none 4)) ∧ (lane2 (with2 9 (settling none 4))).power.state = .settling) ∧
    (Sent (with2 9 tripped) ∧ (lane2 (with2 9 tripped)).power.state = .tripped) ∧
    (Sent (at_ 9) ∧ (lane2 (at_ 9)).power.state = .off ∧ (lane2 (at_ 9)).pins.pfl = false) ∧
    (Sent (after (.pflAssert 2) (at_ 9)) ∧ (lane2 (after (.pflAssert 2) (at_ 9))).power.state = .off ∧
      (lane2 (after (.pflAssert 2) (at_ 9))).pins.pfl = true ∧ (lane2 (after (.pflAssert 2) (at_ 9))).checking = false ∧
      (lane2 (after (.pflAssert 2) (at_ 9))).count < 31) ∧
    (Sent (with2 9 (drawer (releasing 50) onLane)) ∧ (lane2 (with2 9 (drawer (releasing 50) onLane))).power.state = .on ∧
      (lane2 (with2 9 (drawer (releasing 50) onLane))).drawer.state = .releasing) ∧
    (Sent (with2 9 (checking onLane)) ∧ (lane2 (with2 9 (checking onLane))).power.state = .on ∧
      (lane2 (with2 9 (checking onLane))).drawer.state ≠ .releasing) := by decide

theorem witness_PowerFaultTripsAPoweredLane :
    ((at_ 9).held = false ∧ (lane2 (at_ 9)).powered = false) ∧
    ((with2 9 (holding 30 (checking onLane))).held = false ∧ (lane2 (with2 9 (holding 30 (checking onLane)))).powered = true ∧
      (lane2 (with2 9 (holding 30 (checking onLane)))).checking = true ∧
      (lane2 (with2 9 (holding 30 (checking onLane)))).count < 31 ∧
      ((lane2 (with2 9 (held (holding 30 (checking onLane))))).taking 2 9
        ((lane2 (with2 9 (held (holding 30 (checking onLane))))).checker.report .lane)).flowOf =
          (lane2 (with2 9 (held (holding 30 (checking onLane))))).port.reasons.flow) ∧
    (HeardOn (with2 9 (holding 29 (checking onLane))) ∧ (lane2 (with2 9 (holding 29 (checking onLane)))).checking = true ∧
      (lane2 (with2 9 (holding 29 (checking onLane)))).count < 30 ∧
      (lane2 (with2 9 (holding 29 (checking onLane)))).set.InRange ∧
      (lane2 (with2 9 (holding 29 (checking onLane)))).port.reasons.flow = false ∧
      (lane2 (with2 9 (holding 29 (checking onLane)))).liveOf .scannerHeld = false ∧
      (lane2 (with2 9 (holding 29 (checking onLane)))).Reports .scannerHeld true ∧
      ((lane2 (with2 9 (holding 29 (checking onLane)))).taking 2 9
        ((lane2 (with2 9 (holding 29 (checking onLane)))).checker.report .lane)).flowOf = true) := by decide

/-- An ON lane whose last milestone is due at 9. -/
def lastMilestone : Lane :=
  { onLane with power := { state := .on, progress := some 6, start := some 0xFFFFFC21, timer := some 9, pen := true } }

theorem witness_SettleExpiryPassesAMilestoneOrEntersOn :
    ((with2 9 (settling none 4)).held = false ∧ (lane2 (with2 9 (settling none 4))).powered = true ∧
      expired (with2 9 (settling none 4)).timeBase (lane2 (with2 9 (settling none 4))).power.timer = true ∧
      (lane2 (with2 9 (settling none 4))).power.start = some 4 ∧
      (0 : Milestone) ≠ (lane2 (with2 9 (settling none 4))).cfg.settle) ∧
    (HeardOn (with2 9 lastMilestone) ∧ (lane2 (with2 9 lastMilestone)).powered = true ∧
      expired (with2 9 lastMilestone).timeBase (lane2 (with2 9 lastMilestone)).power.timer = true ∧
      (lane2 (with2 9 lastMilestone)).power.progress = some 6) ∧
    (∀ n ∈ [0, 31, 32],
      (with2 9 (holding n (settling (some 3) 0xFFFFFFA5))).held = false ∧
      (lane2 (with2 9 (holding n (settling (some 3) 0xFFFFFFA5)))).power.state = .settling ∧
      expired (with2 9 (holding n (settling (some 3) 0xFFFFFFA5))).timeBase
        (lane2 (with2 9 (holding n (settling (some 3) 0xFFFFFFA5)))).power.timer = true ∧
      (lane2 (with2 9 (holding n (settling (some 3) 0xFFFFFFA5)))).power.start = some 0xFFFFFFA5 ∧
      (lane2 (with2 9 (holding n (settling (some 3) 0xFFFFFFA5)))).cfg.settle.val = (3 : Milestone).val + 1 ∧
      (lane2 (with2 9 (holding n (settling (some 3) 0xFFFFFFA5)))).AtLocalReset ∧
      (lane2 (with2 9 (holding n (settling (some 3) 0xFFFFFFA5)))).set.InRange) := by decide +kernel

theorem witness_LineChangesRestartTheirTimers :
    (at_ 9).held = false ∧ (lane2 (at_ 9)).pins.dsn = .closed ∧ (lane2 (at_ 9)).pins.dsn ≠ .opened ∧
    (lane2 (with2 9 onLane)).pins.srx = .mark ∧ (lane2 (with2 9 onLane)).pins.srx ≠ .space ∧
    (lane2 (with2 9 onLane)).port.rx.breakPending = false := by decide

theorem witness_UnheardEventsChangeNothing :
    ((with2 9 (drawer (releasing 10) onLane)).held = false ∧
      expired (with2 9 (drawer (releasing 10) onLane)).timeBase
        (lane2 (with2 9 (drawer (releasing 10) onLane))).drawer.pulse = false) ∧
    ((with2 9 onLane).held = false ∧ expired (with2 9 onLane).timeBase (lane2 (with2 9 onLane)).power.timer = false ∧
      expired (with2 9 onLane).timeBase ((lane2 (with2 9 onLane)).keys.typematic.map Typematic.point) = false ∧
      expired (with2 9 onLane).timeBase (lane2 (with2 9 onLane)).port.rx.gap = false ∧
      expired (with2 9 onLane).timeBase (lane2 (with2 9 onLane)).port.brk.timer = false ∧
      expired (with2 9 onLane).timeBase ((lane2 (with2 9 onLane)).drawer.stability.map Stability.point) = false ∧
      expired (with2 9 onLane).timeBase (lane2 (with2 9 onLane)).drawer.confirm = false ∧
      expired (with2 9 onLane).timeBase (lane2 (with2 9 onLane)).drawer.openLong = false ∧
      expired (with2 9 onLane).timeBase (lane2 (with2 9 onLane)).reportTimer = false ∧
      expired (with2 9 onLane).timeBase (lane2 (with2 9 onLane)).filter.window = false ∧
      expired (with2 9 (checking onLane)).timeBase (lane2 (with2 9 (checking onLane))).checker.timer = false ∧
      expired (with2 9 onLane).timeBase (with2 9 onLane).link.rx.gap = false ∧
      expired (with2 9 onLane).timeBase (lane2 (with2 9 onLane)).keys.nextSample = false) ∧
    ((at_ 9).held = false ∧ (lane2 (at_ 9)).on = false) := by decide

theorem witness_FetchOfALaneRemovesItsOldestRecords :
    Sent (with2 9 (holding 32 onLane)) ∧ (lane2 (with2 9 (holding 32 onLane))).set.InRange ∧
    Sent (with2 9 (held (holding 24 onLane))) ∧
    (lane2After (.fetchLane 1 2 8) (with2 9 (held (holding 24 onLane)))).port.reasons.flow ≠
      (lane2 (with2 9 (held (holding 24 onLane)))).port.reasons.flow := by decide

/-- A part that holds one alarm. -/
def alarmed : State := after .lkdAssert (at_ 9)

theorem witness_FetchAnyServesAlarmsThenTheChosenLane :
    (alarmed.ready ∧ alarmed.alarms ≠ []) ∧
    ((at_ 9).ready ∧ (at_ 9).alarms = [] ∧ ∀ l : LaneId, (at_ 9).lanes[l].queue.records = []) ∧
    ((with2 9 (holding 1 onLane)).ready ∧ (with2 9 (holding 1 onLane)).alarms = [] ∧
      (with2 9 (holding 1 onLane)).arbiterChoice = some (3, 2)) := by decide

theorem witness_ArbiterRanksGroupsAndRotates :
    (with2 9 (holding 23 onLane)).arbiterChoice = some (3, 2) ∧ (with2 9 (holding 24 onLane)).arbiterChoice = some (0, 2) := by
  decide

/-- A lane whose host mask and key mask hold NO_KEYS, with one key down. -/
def oneKeyDown : Lane := keys (fun k => { k with downList := [40] }) (sets (fun x => { x with hostMask := 64, keyMask := 64 }) onLane)

theorem witness_ReleaseChecksAndGrants :
    (Sent (at_ 9) ∧ (lane2 (at_ 9)).on = false) ∧
    (Sent { with2 9 onLane with lockdown := true } ∧ (lane2 { with2 9 onLane with lockdown := true }).on = true ∧
      { with2 9 onLane with lockdown := true }.lockdown = true) ∧
    (Sent (with2 9 (drawer (fun x => { x with fault := true }) onLane)) ∧
      (lane2 (with2 9 (drawer (fun x => { x with fault := true }) onLane))).on = true ∧
      (with2 9 (drawer (fun x => { x with fault := true }) onLane)).lockdown = false ∧
      (lane2 (with2 9 (drawer (fun x => { x with fault := true }) onLane))).drawer.fault = true) ∧
    (Sent (with2 9 (drawer (releasing 50) onLane)) ∧ (lane2 (with2 9 (drawer (releasing 50) onLane))).drawer.fault = false ∧
      (lane2 (with2 9 (drawer (releasing 50) onLane))).drawer.state ≠ .closed) ∧
    (Sent (with2 9 oneKeyDown) ∧ (lane2 (with2 9 oneKeyDown)).on = true ∧ (with2 9 oneKeyDown).lockdown = false ∧
      (lane2 (with2 9 oneKeyDown)).drawer.fault = false ∧ (lane2 (with2 9 oneKeyDown)).drawer.state = .closed ∧
      (lane2 (with2 9 oneKeyDown)).failing (lane2 (with2 9 oneKeyDown)).set.hostMask ≠ 0) ∧
    (Sent (with2 9 onLane) ∧ (lane2 (with2 9 onLane)).on = true ∧ (with2 9 onLane).lockdown = false ∧
      (lane2 (with2 9 onLane)).drawer.fault = false ∧ (lane2 (with2 9 onLane)).drawer.state = .closed ∧
      (lane2 (with2 9 onLane)).failing (lane2 (with2 9 onLane)).set.hostMask = 0) ∧
    ((with2 9 oneKeyDown).view 2).ln.on = true ∧
    ((with2 9 oneKeyDown).view 2).ln.failing ((with2 9 oneKeyDown).view 2).ln.set.keyMask ≠ 0 := by decide

theorem witness_FlagsAreClearedThenSet :
    Sent (at_ 9) ∧ 16 ≤ (16 : Byte).toNat ∧ (15 : Byte).toNat < 16 := by decide

/-- A part whose lane 2 is releasing under an open sense. -/
def releasingOpen : State := with2 9 (drawer (fun x => { releasing 9 x with sense := some .opened }) onLane)

theorem witness_LockdownCutsEveryPulseAndUnlockClears :
    (alarmed.held = false ∧ alarmed.lkdLevel = true ∧ alarmed.ready) ∧ ((at_ 9).ready ∧ (at_ 9).lkdLevel = false) ∧
    (releasingOpen.held = false ∧ releasingOpen.lkdLevel = false ∧ (lane2 releasingOpen).drawer.state = .releasing ∧
      (lane2 releasingOpen).drawer.sense = some .opened ∧ (lane2 releasingOpen).set.InRange ∧
      (lane2After .lkdAssert releasingOpen).port.reasons.flow = (lane2 releasingOpen).port.reasons.flow) ∧
    ((lane2 (with2 9 (drawer (releasing 50) onLane))).drawer.state = .releasing ∧
      (lane2 (with2 9 (drawer (releasing 50) onLane))).drawer.sense ≠ some .opened) ∧
    (lane2 (at_ 9)).drawer.state ≠ .releasing := by decide

theorem witness_ClrFaultClearsTheLatchAlone :
    (Sent (at_ 9) ∧ (lane2 (at_ 9)).drawer.fault = false) ∧
    (Sent (with2 9 (drawer (fun x => { x with fault := true }) onLane)) ∧
      (lane2 (with2 9 (drawer (fun x => { x with fault := true }) onLane))).drawer.fault = true) ∧
    ((lane2 (with2 9 onLane)).on = true ∧ (lane2 (with2 9 onLane)).liveOf .driverFault = false) := by decide

theorem witness_DriverFaultCutsThePulse :
    ((at_ 9).held = false ∧ (lane2 (at_ 9)).drawer.state ≠ .releasing) ∧
    ((lane2 (with2 9 (drawer (releasing 50) onLane))).drawer.state = .releasing ∧
      (lane2 (with2 9 (drawer (releasing 50) onLane))).drawer.sense ≠ some .opened) ∧
    (releasingOpen.held = false ∧ (lane2 releasingOpen).drawer.state = .releasing ∧
      (lane2 releasingOpen).drawer.sense = some .opened ∧ (lane2 releasingOpen).count < 32 ∧
      (lane2 releasingOpen).set.InRange ∧
      (lane2After (.docAssert 2) releasingOpen).port.reasons.flow = (lane2 releasingOpen).port.reasons.flow) := by decide

theorem witness_DrawerTimersMoveTheDrawer :
    ((with2 9 (drawer (releasing 9) onLane)).held = false ∧
      (lane2 (with2 9 (drawer (releasing 9) onLane))).drawer.state = .releasing ∧
      expired (with2 9 (drawer (releasing 9) onLane)).timeBase (lane2 (with2 9 (drawer (releasing 9) onLane))).drawer.pulse =
        true ∧
      (lane2 (with2 9 (drawer (releasing 9) onLane))).drawer.sense ≠ some .opened) ∧
    (expired releasingOpen.timeBase (lane2 releasingOpen).drawer.pulse = true ∧
      (lane2 releasingOpen).drawer.sense = some .opened ∧ (lane2 releasingOpen).set.InRange ∧
      (lane2After (.pulseExpiry 2) releasingOpen).port.reasons.flow = (lane2 releasingOpen).port.reasons.flow) ∧
    ((lane2 (with2 9 (drawer (fun x => { x with state := .awaitOpen, confirm := some 9 }) onLane))).drawer.state = .awaitOpen ∧
      expired 9 (lane2 (with2 9 (drawer (fun x => { x with state := .awaitOpen, confirm := some 9 }) onLane))).drawer.confirm =
        true) ∧
    ((lane2 (with2 9 (drawer (fun x => { x with state := .opened, openLong := some 9 }) onLane))).drawer.state = .opened ∧
      expired 9 (lane2 (with2 9 (drawer (fun x => { x with state := .opened, openLong := some 9 }) onLane))).drawer.openLong =
        true) := by decide

/-- A lane with these commands in its scanner command queue. -/
def queued (cs : List ScanCmd) : State := with2 9 (port (fun p => { p with cmds := cs }) onLane)

theorem witness_InhibitToneAndCommandSent :
    (Sent (at_ 9) ∧ (lane2 (at_ 9)).on = false) ∧ (Sent (with2 9 onLane) ∧ (lane2 (with2 9 onLane)).on = true) ∧
    ((lane2 (with2 9 onLane)).on = true ∧ 2 ≤ (2 : Byte).toNat) ∧
    (Sent (with2 9 (checking onLane)) ∧ (lane2 (with2 9 (checking onLane))).on = true ∧ (1 : Byte).toNat < 2 ∧
      (lane2 (with2 9 (checking onLane))).checking = true) ∧
    (Sent (queued [.tone .good, .tone .good, .tone .good, .tone .bad]) ∧
      (lane2 (queued [.tone .good, .tone .good, .tone .good, .tone .bad])).checking = false ∧
      4 ≤ (lane2 (queued [.tone .good, .tone .good, .tone .good, .tone .bad])).port.cmds.length) ∧
    (Sent (queued [.tone .good, .tone .good, .tone .bad]) ∧
      ((lane2 (queued [.tone .good, .tone .good, .tone .bad])).port.cmds.tail.filter ScanCmd.isTone).length < 3 ∧
      (lane2 (queued [.tone .good, .tone .good, .tone .bad])).port.cmds.length < 4) ∧
    (HeardOn (queued [.tone .good]) ∧ (lane2 (queued [.tone .good])).checking = false ∧
      (lane2 (queued [.tone .good])).port.cmds = .tone .good :: []) ∧
    (ScanCmd.tone .bad).frame = [0x01, 0x42, 0x17, 0x42] := by decide

/-- A lane in AUTO. -/
def auto (d : Lane) : Lane := sets (fun x => { x with counterMode := .auto }) d

theorem witness_CountsReadsAndClears :
    2 ≤ (2 : Byte).toNat ∧ Sent (at_ 9) ∧ (Sent (with2 9 (auto onLane)) ∧ (lane2 (with2 9 (auto onLane))).set.counterMode = .auto) ∧
    ((lane2 (at_ 9)).set.counterMode = .manual ∧ (lane2 (at_ 9)).counters = .zero) ∧
    (Sent (with2 9 { onLane with counters := { Counters.zero with good := 1 } }) ∧
      (lane2 (with2 9 { onLane with counters := { Counters.zero with good := 1 } })).set.counterMode = .manual ∧
      (lane2 (with2 9 { onLane with counters := { Counters.zero with good := 1 } })).counters ≠ .zero) := by decide

theorem witness_ReportAndWindowExpiries :
    (HeardOn (with2 9 { onLane with reportTimer := some 9 }) ∧
      (lane2 (with2 9 { onLane with reportTimer := some 9 })).reportTimer = some 9 ∧ expired 9 (some 9) = true) ∧
    ((with2 9 { onLane with filter := { last := some codeX, window := some 9 } }).held = false ∧
      expired 9 (lane2 (with2 9 { onLane with filter := { last := some codeX, window := some 9 } })).filter.window = true) := by
  decide

theorem witness_CheckStartsAndInserts :
    (Sent (at_ 9) ∧ (lane2 (at_ 9)).on = false) ∧
    (Sent (with2 9 (checking onLane)) ∧ (lane2 (with2 9 (checking onLane))).on = true ∧
      (lane2 (with2 9 (checking onLane))).checking = true ∧ (lane2 (with2 9 (checking onLane))).checker.insert = false) ∧
    (lane2 (after (.checkInsert 1 2) (with2 9 (checking onLane)))).checker.insert = true ∧
    (Sent (with2 9 onLane) ∧ (lane2 (with2 9 onLane)).on = true ∧ (lane2 (with2 9 onLane)).checking = false) := by decide

theorem witness_CheckEndsAtStopOrExpiry :
    (Sent (with2 9 onLane) ∧ (lane2 (with2 9 onLane)).checking = false) ∧
    (Sent (with2 20000 (checking onLane)) ∧ HeardOn (with2 20000 (checking onLane)) ∧
      (lane2 (with2 20000 (checking onLane))).checking = true ∧ (lane2 (with2 20000 (checking onLane))).port.cmds = [] ∧
      expired 20000 (lane2 (with2 20000 (checking onLane))).checker.timer = true) := by decide

/-- A lane whose check has a full sent window. -/
def fullWindow (c : CheckState) : Lane :=
  checker (fun x => { x with state := c, sent := List.replicate 16 0, history := List.replicate 16 true }) (checking onLane)

theorem witness_CheckBytesAreMadeSentAndRemembered :
    (HeardOn (with2 9 (checking onLane)) ∧ (lane2 (with2 9 (checking onLane))).checking = true ∧
      (lane2 (with2 9 (checking onLane))).checker.bytesSent ≠ BitVec.allOnes 32 ∧
      (lane2 (with2 9 (checking onLane))).checker.mismatches ≠ BitVec.allOnes 32 ∧
      (lane2 (with2 9 (checking onLane))).checker.history.length ≤ 16 ∧
      (lane2 (with2 9 (checking onLane))).checker.sent.length < 16) ∧
    (HeardOn (with2 9 (fullWindow .hunt)) ∧ (lane2 (with2 9 (fullWindow .hunt))).checking = true ∧
      (lane2 (with2 9 (fullWindow .hunt))).checker.sent.length = 16 ∧
      (lane2 (with2 9 (fullWindow .hunt))).checker.state = .hunt) ∧
    (HeardOn (with2 9 (fullWindow .locked)) ∧ (lane2 (with2 9 (fullWindow .locked))).checking = true ∧
      (lane2 (with2 9 (fullWindow .locked))).checker.bytesSent ≠ BitVec.allOnes 32 ∧
      (lane2 (with2 9 (fullWindow .locked))).checker.mismatches ≠ BitVec.allOnes 32 ∧
      (lane2 (with2 9 (fullWindow .locked))).checker.history.length ≤ 16 ∧
      (lane2 (with2 9 (fullWindow .locked))).checker.sent.length = 16 ∧
      (lane2 (with2 9 (fullWindow .locked))).checker.state = .locked) := by decide

/-- A lane whose check has this run. -/
def running (n : Nat) : Lane := checker (fun x => { x with run := n }) (checking onLane)

theorem witness_CheckByteIsCompared :
    (HeardOn (with2 9 (running 0)) ∧ (lane2 (with2 9 (running 0))).checker.bytesMatched ≠ BitVec.allOnes 32 ∧
      (lane2 (with2 9 (running 0))).checker.mismatches ≠ BitVec.allOnes 32 ∧
      (lane2 (with2 9 (running 0))).checker.history.length ≤ 16 ∧ (lane2 (with2 9 (running 0))).checker.state = .hunt ∧
      (lane2 (with2 9 (running 0))).checker.run = 0 ∧ (0x01 : Byte) ∉ (lane2 (with2 9 (running 0))).checker.sent ∧
      (0x01 : Byte) ≠ 0x00) ∧
    (lane2 (with2 9 (running 0))).checker.state ≠ .idle ∧
    ((lane2 (with2 9 (running 0))).checker.sent = [] ++ 0xAC :: [] ∧ (0xAC : Byte) ∉ ([] : List Byte)) ∧
    ((lane2 (with2 9 (running 7))).checker.state = .hunt ∧ (lane2 (with2 9 (running 7))).checker.run ≠ 0 ∧
      (lane2 (with2 9 (running 7))).checker.run < 8 ∧ (lane2 (with2 9 (running 7))).checker.sent.head? ≠ some 0x00) ∧
    ((lane2 (with2 9 (running 7))).checker.sent = 0xAC :: []) ∧
    (HeardOn (with2 9 (fullWindow .locked)) ∧ (lane2 (with2 9 (fullWindow .locked))).checker.state = .locked ∧
      (lane2 (with2 9 (fullWindow .locked))).checker.sent.head? = some 0 ∧
      (lane2 (with2 9 (fullWindow .locked))).checker.history.length ≤ 16) := by decide

/-- A lane with a receive assembly. -/
def receiving (state : RxState) (cls : Option CodeClass) (chars : List Byte) : Lane :=
  port (fun p => { p with rx := { state := state, cls := cls, chars := chars, gap := some 9, breakPending := false } }) onLane

theorem witness_FrameBytesAreAssembled :
    (HeardOn (with2 9 onLane) ∧ (lane2 (with2 9 onLane)).checking = false ∧
      (lane2 (with2 9 onLane)).port.rx.breakPending = false ∧ (lane2 (with2 9 onLane)).port.rx.state = .idle ∧
      (0x02 : Byte) ≠ 0x01) ∧
    (HeardOn (with2 9 (receiving .inFrame none [])) ∧ (lane2 (with2 9 (receiving .inFrame none []))).checking = false ∧
      (lane2 (with2 9 (receiving .inFrame none []))).port.rx.state = .inFrame ∧
      (lane2 (with2 9 (receiving .inFrame none []))).port.rx.cls = none) ∧
    ((lane2 (with2 9 (receiving .inFrame (some .numeric) (List.replicate 47 0x30)))).port.rx.cls = some .numeric ∧
      (0x39 : Byte).toNat ≤ 0x39 ∧
      (lane2 (with2 9 (receiving .inFrame (some .numeric) (List.replicate 47 0x30)))).port.rx.chars.length < 48) ∧
    ((lane2 (with2 9 (receiving .inFrame (some .alpha) []))).port.rx.cls = some .alpha ∧ 0x20 ≤ (0x20 : Byte).toNat ∧
      (0x7E : Byte).toNat ≤ 0x7E) ∧
    ((lane2 (with2 9 (receiving .inFrame (some .alpha) [0x41]))).port.rx.cls.isSome = true ∧
      (lane2 (with2 9 (receiving .inFrame (some .alpha) [0x41]))).port.rx.chars ≠ []) := by decide

theorem witness_BrokenFramesAreAborted :
    (HeardOn (with2 9 (receiving .inFrame none [])) ∧ (lane2 (with2 9 (receiving .inFrame none []))).checking = false ∧
      (lane2 (with2 9 (receiving .inFrame none []))).port.rx.breakPending = false ∧
      (lane2 (with2 9 (receiving .inFrame none []))).port.rx.state = .inFrame ∧
      (lane2 (with2 9 (receiving .inFrame none []))).port.rx.cls = none ∧ (0x4D : Byte) ≠ 0x4E ∧
      expired 9 (lane2 (with2 9 (receiving .inFrame none []))).port.rx.gap = true ∧ (0x01 : Byte) ≠ 0x00) ∧
    ((lane2 (with2 9 (receiving .inFrame (some .numeric) []))).port.rx.cls.isSome = true ∧
      (lane2 (with2 9 (receiving .inFrame (some .numeric) []))).port.rx.chars = []) ∧
    ((0x2F : Byte).toNat < 0x30 ∧ 0x39 < (0x3A : Byte).toNat ∧ (0x1F : Byte).toNat < 0x20 ∧ 0x7E < (0x7F : Byte).toNat ∧
      48 ≤ (lane2 (with2 9 (receiving .inFrame (some .alpha) (List.replicate 48 0x41)))).port.rx.chars.length) ∧
    (HeardOn (with2 9 (awaiting codeX onLane)) ∧ (lane2 (with2 9 (awaiting codeX onLane))).port.rx.state = .awaitBcc ∧
      (lane2 (with2 9 (awaiting codeX onLane))).port.rx.cls = some .numeric ∧
      (0x4E : Byte) ≠
        (lane2 (with2 9 (awaiting codeX onLane))).port.rx.chars.foldl (fun x y => x ^^^ y) 0x4E) := by decide

/-- A lane with a break detector. -/
def broken (absent : Bool) (level : LineLevel) : Lane :=
  port (fun p => { p with brk := { absent := absent, held := some { level := level, since := 0 }, timer := some 9 } })
    { onLane with pins := { LanePins.atReset with srx := level } }

theorem witness_BreaksEndFramesAndFindTheScannerAbsent :
    (HeardOn (with2 9 (port (fun p => { p with rx := { p.rx with breakPending := true } }) (broken false .space))) ∧
      (lane2 (with2 9 (port (fun p => { p with rx := { p.rx with breakPending := true } }) (broken false .space)))).pins.srx =
        .space ∧
      (lane2 (with2 9 (port (fun p => { p with rx := { p.rx with breakPending := true } })
        (broken false .space)))).port.rx.breakPending = true ∧
      (lane2 (with2 9 (port (fun p => { p with rx := { p.rx with breakPending := true } }) (broken false .space)))).checking =
        false) ∧
    (HeardOn (with2 9 (broken false .space)) ∧ expired 9 (lane2 (with2 9 (broken false .space))).port.brk.timer = true ∧
      (lane2 (with2 9 (broken false .space))).port.brk.held = some { level := .space, since := 0 }) ∧
    (HeardOn (with2 9 (broken false .mark)) ∧ (lane2 (with2 9 (broken false .mark))).port.brk.absent = false) ∧
    (HeardOn (with2 9 (broken true .mark)) ∧ expired 9 (lane2 (with2 9 (broken true .mark))).port.brk.timer = true ∧
      (lane2 (with2 9 (broken true .mark))).port.brk.held = some { level := .mark, since := 0 } ∧
      (lane2 (with2 9 (broken true .mark))).port.brk.absent = true ∧
      (lane2 (with2 9 (broken true .mark))).checking = false ∧
      (lane2 (with2 9 (broken true .mark))).port.cmds.length ≤ 4) ∧
    (HeardOn (with2 9 (checking (broken true .mark))) ∧
      expired 9 (lane2 (with2 9 (checking (broken true .mark)))).port.brk.timer = true ∧
      (lane2 (with2 9 (checking (broken true .mark)))).port.brk.absent = true ∧
      (lane2 (with2 9 (checking (broken true .mark)))).checking = true) := by decide

/-- A code that entry 3 of section 4.8 matches, its check digit misread. -/
def misread : Code := { codeX with chars := digits [2, 1, 2, 3, 4, 5, 6, 0, 1, 2, 9, 9, 7] }

theorem witness_TheFirstMatchingRuleDecides :
    (∀ i : RuleIdx, (Vector.replicate 16 CodeRule.reset)[i].matchesCode codeX = false) ∧
    (table3[(3 : RuleIdx)].matchesCode codeX = true ∧
      (∀ j : RuleIdx, j < 3 → table3[j].matchesCode codeX = false) ∧ table3[(3 : RuleIdx)].reject = false ∧
      mod10Passes codeX.chars = true ∧ table3[(3 : RuleIdx)].value = some { start := 8, count := 5, scale := 2 } ∧
      ValueField.valueOf { start := 8, count := 5, scale := 2 } codeX.chars ≤ LaneSet.reset.valueLimit ∧
      1298 < ValueField.valueOf { start := 8, count := 5, scale := 2 } codeX.chars) ∧
    (table3[(3 : RuleIdx)].mod10 = true ∧ mod10Passes misread.chars = false) ∧
    (CodeRule.matchesCode { entry3.entry .numeric with reject := true, value := none } codeX = true) := by decide

theorem witness_CheckDigitValueAndLookupKey :
    (codeX.chars ≠ [] ∧ ∀ b ∈ codeX.chars, isDigit b = true) ∧
    ((8 : Nat) + 5 - 1 ≤ codeX.chars.length - 1 ∧ 1 ≤ (8 : Nat) ∧ 1 ≤ (5 : Nat) ∧ 12 < codeX.chars.length) := by decide

theorem witness_ACompletedFrameMeetsItsOutcome :
    (HeardOn (with2 9 (awaiting codeX onLane)) ∧ (lane2 (with2 9 (awaiting codeX onLane))).checking = false ∧
      (lane2 (with2 9 (awaiting codeX onLane))).port.rx.state = .awaitBcc ∧
      (lane2 (with2 9 (awaiting codeX onLane))).port.rx.breakPending = false ∧
      (lane2 (with2 9 (awaiting codeX onLane))).port.rx.cls = some codeX.cls ∧
      (lane2 (with2 9 (awaiting codeX onLane))).port.rx.chars = codeX.chars ∧
      judge (with2 9 (awaiting codeX onLane)).rules (lane2 (with2 9 (awaiting codeX onLane))).set codeX =
        .pass none 0 false none ∧
      (with2 9 (awaiting codeX onLane)).roomForCode 2 ∧ (lane2 (with2 9 (awaiting codeX onLane))).filter.window = none) ∧
    ((lane2 (with2 9 (holding 28 (awaiting codeX onLane)))).port.rx.state = .awaitBcc ∧
      ¬(with2 9 (holding 28 (awaiting codeX onLane))).roomForCode 2) ∧
    ((with2 9 (holding 27 (awaiting codeX onLane))).roomForCode 2 ∧
      judge table3 (lane2 (with2 9 (holding 27 (awaiting misread onLane)))).set misread = .reject .check (some 3)) ∧
    ((lane2 (with2 9 { awaiting codeX onLane with filter := { last := some codeX, window := some 10 } })).filter.window.isSome =
        true ∧
      (lane2 (with2 9 { awaiting codeX onLane with filter := { last := some codeX, window := some 10 } })).filter.last =
        some codeX) := by decide

/-- A lane whose sample is due at 9. -/
def due (d : Lane) : Lane := keys (fun k => { k with nextSample := some 9 }) d

/-- The lane with keylock positions 120 and 121. -/
def withKeylock (d : Lane) : Lane := { d with keymap := (d.keymap.set 120 (.keylock .off)).set 121 (.keylock .operate) }

theorem witness_SamplesAreDebounced :
    HeardOn (with2 9 (due onLane)) ∧ expired 9 (lane2 (with2 9 (due onLane))).keys.nextSample = true ∧
    (∀ p : KeyPos, (lane2 (with2 9 (due onLane))).keymap[p] = .normal) ∧
    (lane2 (with2 9 (withKeylock (due onLane)))).keymap[(120 : KeyPos)] = .keylock .off ∧
    (lane2 (with2 9 (withKeylock (due onLane)))).keymap[(121 : KeyPos)] = .keylock .operate ∧
    (∀ p : KeyPos, (lane2 (with2 9 (withKeylock (due onLane)))).keys.cells[p].down = false) := by decide +kernel

/-- A view of lane 2. -/
def view2 (d : Lane) : LaneView := (with2 9 d).view 2

theorem witness_KeysJoinAndLeaveTheDownList :
    (view2 (keys (fun k => { k with keylock := .off }) onLane)).ln.keys.keylock = .off ∧
    ((view2 (keys (fun k => { k with downList := [0, 1, 2, 3, 4, 5] }) onLane)).ln.keys.keylock ≠ .off ∧
      6 ≤ (view2 (keys (fun k => { k with downList := [0, 1, 2, 3, 4, 5] }) onLane)).ln.keys.downList.length) ∧
    ((view2 (holding 28 onLane)).ln.keys.keylock ≠ .off ∧ (view2 (holding 28 onLane)).ln.keys.downList.length < 6 ∧
      28 ≤ (view2 (holding 28 onLane)).ln.count) ∧
    ((view2 (holding 27 onLane)).ln.keys.keylock ≠ .off ∧ (view2 (holding 27 onLane)).ln.keys.downList.length < 6 ∧
      (view2 (holding 27 onLane)).ln.count < 28) ∧
    ((37 : KeyPos) ∉ (view2 onLane).ln.keys.downList) ∧
    ((40 : KeyPos) ∈ (view2 oneKeyDown).ln.keys.downList ∧ (view2 (holding 31 oneKeyDown)).ln.count < 32 ∧
      32 ≤ (view2 (holding 32 oneKeyDown)).ln.count) := by decide

/-- A lane whose typematic timer serves position 99 and is due at 9. -/
def repeating (d : Lane) : Lane := keys (fun k => { k with downList := [99], typematic := some { point := 9, pos := 99 } }) d

theorem witness_TypematicRepeatsTheLastKey :
    HeardOn (with2 9 (repeating (holding 27 onLane))) ∧
    (lane2 (with2 9 (repeating (holding 27 onLane)))).keys.typematic = some { point := 9, pos := 99 } ∧
    expired 9 (some 9) = true ∧ (lane2 (with2 9 (repeating (holding 27 onLane)))).count < 28 ∧
    28 ≤ (lane2 (with2 9 (repeating (holding 28 onLane)))).count := by decide

/-- A lane whose sense is found at a level at 9, its drawer in a state. -/
def sensed (state : DrawerState) (old : Option Sense) (new : Sense) : State :=
  with2 9 (drawer (fun x =>
    { x with state := state, sense := old, stability := some { point := 9, level := new }, openStart := some 0xFFFFFFFF }) onLane)

theorem witness_AnOpenSenseOpensTheDrawer :
    (HeardOn (sensed .closed (some .closed) .opened) ∧
      (lane2 (sensed .closed (some .closed) .opened)).drawer.stability = some { point := 9, level := .opened } ∧
      expired 9 (some 9) = true ∧ (lane2 (sensed .closed (some .closed) .opened)).drawer.sense ≠ some .opened ∧
      (lane2 (sensed .closed (some .closed) .opened)).drawer.state = .closed ∧
      (lane2 (sensed .closed (some .closed) .opened)).count < 32 ∧
      (lane2 (sensed .closed (some .closed) .opened)).set.InRange ∧
      (lane2After (.senseStabilityExpiry 2) (sensed .closed (some .closed) .opened)).port.reasons.flow =
        (lane2 (sensed .closed (some .closed) .opened)).port.reasons.flow) ∧
    (HeardOn (sensed .opened (some .opened) .opened) ∧
      (lane2 (sensed .opened (some .opened) .opened)).drawer.sense = some .opened) ∧
    ((lane2 (sensed .unsensed none .opened)).drawer.state = .unsensed ∧
      (lane2 (sensed .unsensed none .opened)).drawer.sense ≠ some .opened) ∧
    ((lane2 (sensed .awaitOpen (some .closed) .opened)).drawer.state = .awaitOpen) ∧
    ((lane2 (sensed .releasing (some .closed) .opened)).drawer.state = .releasing) := by decide

theorem witness_AClosedSenseClosesTheDrawer :
    (HeardOn (sensed .opened (some .opened) .closed) ∧
      (lane2 (sensed .opened (some .opened) .closed)).drawer.stability = some { point := 9, level := .closed } ∧
      (lane2 (sensed .opened (some .opened) .closed)).drawer.sense ≠ some .closed ∧
      (lane2 (sensed .opened (some .opened) .closed)).drawer.state = .opened ∧
      (lane2 (sensed .opened (some .opened) .closed)).drawer.openStart = some 0xFFFFFFFF ∧
      (lane2 (sensed .opened (some .opened) .closed)).set.InRange ∧
      (lane2After (.senseStabilityExpiry 2) (sensed .opened (some .opened) .closed)).port.reasons.flow =
        (lane2 (sensed .opened (some .opened) .closed)).port.reasons.flow) ∧
    (HeardOn (sensed .closed (some .closed) .closed) ∧
      (lane2 (sensed .closed (some .closed) .closed)).drawer.sense = some .closed) ∧
    ((lane2 (sensed .openLong (some .opened) .closed)).drawer.state = .openLong) ∧
    ((lane2 (sensed .unsensed none .closed)).drawer.state = .unsensed ∧
      (lane2 (sensed .unsensed none .closed)).drawer.sense ≠ some .closed) ∧
    ((lane2 (sensed .releasing (some .opened) .closed)).drawer.state = .releasing) := by decide

theorem witness_OfferedRecordsAreTakenOrRefused :
    (RecordBody.classA (.keyDown 0 .operate) = true ∧ (view2 (holding 27 onLane)).ln.queue.records.length < 28) ∧
    (RecordBody.slots (.reject codeX .noRule none) = 1 ∧ (view2 onLane).ln.queue.held < (view2 onLane).ln.set.quota ∧
      0 < (view2 onLane).free ∧ (view2 onLane).ln.set.InRange) ∧
    (RecordBody.classA (.keyUp 0) = false ∧ (view2 (holding 31 onLane)).ln.queue.records.length < 32) ∧
    ((view2 (holding 23 onLane)).ln.set.high ≤ (view2 (holding 23 onLane)).ln.queue.records.length + 1 ∧
      (view2 (holding 23 onLane)).ln.on = true ∧ true ≠ (view2 (holding 23 onLane)).ln.port.reasons.flow ∧
      true ≠ (view2 (holding 23 onLane)).ln.liveOf .scannerHeld ∧
      (view2 (holding 23 onLane)).ln.modeOf .scannerHeld = .rise ∧ (view2 (holding 31 onLane)).ln.set.InRange ∧
      32 ≤ (view2 (holding 31 onLane)).ln.queue.records.length + 1) ∧
    (¬(view2 (holding 28 onLane)).ln.queue.records.length < 28 ∧ ¬(view2 (holding 32 onLane)).ln.queue.records.length < 32) := by
  decide

theorem witness_AlarmsMergeAndStayMerged :
    (∀ a ∈ ([] : List Alarm), ¬(a.kind = .lockdown ∧ a.lane = none)) ∧
    ((alarmed.alarms = [] ++ { kind := .lockdown, lane := none, first := 9, last := 9, repeats := 1 } :: []) ∧ alarmed.AlarmLaw) ∧
    ∃ t, step alarmed = .next t := ⟨by decide, by decide, _, rfl⟩

theorem witness_AFrameOnTheLineIsItsRequest :
    { at_ 9 with pending := (hostFrame 0x02 1 [2]).map fun b => Instr.hostByteArrival b false }.held = false ∧
    { at_ 9 with pending := (hostFrame 0x02 1 [2]).map fun b => Instr.hostByteArrival b false }.link.rx = HostRx.reset ∧
    ([2] : List Byte).length ≤ 1028 ∧
    (List.replicate 18 (0xFF : Byte)).length = 18 ∧ (List.replicate 28 (0xFF : Byte)).length = 28 := by decide

/-- The receiver of the host link in a state, with a body. -/
def linkRx (state : HostRxState) (len : BitVec 16) (body : List Byte) (crc : BitVec 16) (low : Byte) : State :=
  (at_ 9).setHostRx { state := state, len := len, body := body, crc := crc, crcLow := low, gap := some 9 }

theorem witness_TheHostReceiverFollowsItsTable :
    ((at_ 9).held = false ∧ (at_ 9).link.rx.state = .hunt ∧ (0xC2 : Byte) ≠ 0xC3) ∧
    ((linkRx .lenLow 0 [] 0 0).held = false ∧ (linkRx .lenLow 0 [] 0 0).link.rx.state = .lenLow ∧
      expired 9 (linkRx .lenLow 0 [] 0 0).link.rx.gap = true) ∧
    ((linkRx .lenHigh 7 [] 0 0).link.rx.state = .lenHigh ∧
      1030 < (linkRx .lenHigh 7 [] 0 0).link.rx.len.toNat % 256 + 256 * (4 : Byte).toNat ∧
      (linkRx .lenHigh 6 [] 0 0).link.rx.len.toNat % 256 + 256 * (4 : Byte).toNat ≤ 1030 ∧
      (linkRx .lenHigh 1 [] 0 0).link.rx.len.toNat % 256 + 256 * (0 : Byte).toNat < 2) ∧
    ((linkRx .body 2 [1] 0 0).link.rx.state = .body) ∧ ((linkRx .crcLow 2 [1, 5] 0 0).link.rx.state = .crcLow) ∧
    ((linkRx .crcHigh 2 [1, 5] 0x1234 0x34).link.rx.state = .crcHigh ∧
      (linkRx .crcHigh 2 [1, 5] 0x1234 0x34).link.rx.crc.toNat =
        (linkRx .crcHigh 2 [1, 5] 0x1234 0x34).link.rx.crcLow.toNat + 256 * (0x12 : Byte).toNat ∧
      (linkRx .crcHigh 2 [1, 5] 0x1234 0x34).link.rx.crc.toNat ≠
        (linkRx .crcHigh 2 [1, 5] 0x1234 0x34).link.rx.crcLow.toNat + 256 * (0x13 : Byte).toNat ∧
      (linkRx .crcHigh 2 [1, 5] 0x1234 0x34).link.rx.body = 1 :: 5 :: []) := by decide

theorem witness_KindLengthAndLaneAreCheckedFirst :
    ((at_ 9).ready ∧ (0 : Byte).toNat = 0 ∧ 0x12 < (0x13 : Byte).toNat) ∧
    ((0x0A : Byte) = RequestKind.release.byte ∧ ([2, 2] : List Byte).length ≠ RequestKind.release.payloadLength ∧
      ([2] : List Byte).length = RequestKind.release.payloadLength) ∧
    (8 ≤ (8 : Byte).toNat ∧ (8 : Byte) ≠ 0xFF) ∧
    ((List.replicate 18 (0 : Byte)).length = 18 ∧ (List.replicate 28 (0 : Byte)).length = 28 ∧
      (7 : Byte).toNat = (7 : LaneId).val ∧ 2 ≤ (2 : Byte).toNat ∧ 3 ≤ (3 : Byte).toNat) := by decide

theorem witness_ResetStartsFromAnyState :
    ((after .replySent (after (.restart 1) (at_ 9))).held = false ∧
      (after .replySent (after (.restart 1) (at_ 9))).link.restartPending = true ∧
      (after .replySent (after (.restart 1) (at_ 9))).link.replies = [] ∧
      (after .replySent (after (.restart 1) (at_ 9))).lkdPin = false) ∧
    ((after .replySent (after (.restart 1) alarmed)).link.restartPending = true ∧
      (after .replySent (after (.restart 1) alarmed)).link.replies = [] ∧
      (after .replySent (after (.restart 1) alarmed)).lkdPin = true) ∧
    ((at_ 9).link.restartPending = false) := by decide

theorem witness_ResetEndsWhenNothingHolds :
    (∀ l : LaneId, (at_ 9).lanes[l].drawer.state ≠ .releasing) ∧ (at_ 9).porHold = false ∧ (at_ 9).rstAsserted = false ∧
    ((after .powerOnReset (at_ 9)).porHold = true ∧ (after .powerOnReset (at_ 9)).rstAsserted = false ∧
      ∀ l : LaneId, (after .powerOnReset (at_ 9)).lanes[l].drawer.state ≠ .releasing) ∧
    ((after .rstAssert (after .powerOnReset (at_ 9))).porHold = true ∧
      (after .rstAssert (after .powerOnReset (at_ 9))).rstAsserted = true) ∧
    ((after .rstAssert (at_ 9)).rstAsserted = true ∧ (after .rstAssert (at_ 9)).porHold = false) := by decide +kernel

/-- A part with an alarm waiting and a command to carry out. -/
def busy : State := { alarmed with pending := [.fetchAny 1 8] }

theorem witness_AttnFollowsTheWaitingRecords : busy.AttnLaw ∧ ∃ t, step busy = .next t := ⟨by decide, _, rfl⟩

/-- A part whose lane 2 holds a REJECT record with its slot, a FETCH being next. -/
def slotHeld : State :=
  { with2 9
      { onLane with
        queue :=
          { records := [{ lane := 2, seq := 0xFFFF, time := 5, lost := 255, body := .reject codeX .noRule none }]
            seq := 0, loss := 255, held := 1 } } with
    poolFree := 95, attn := true, pending := [.fetchLane 1 2 8] }

theorem witness_CodeSlotsAreConserved : slotHeld.PoolLaw ∧ ∃ t, step slotHeld = .next t := ⟨by decide, _, rfl⟩

theorem witness_LaneQueuesStayInOrder : slotHeld.QueueLaw ∧ ∃ t, step slotHeld = .next t := ⟨by decide, _, rfl⟩

theorem witness_TheSolenoidIsGuarded :
    { releasingOpen with pending := [.lkdAssert] }.DrawerLaw ∧ ∃ t, step { releasingOpen with pending := [.lkdAssert] } = .next t :=
  ⟨by decide, _, rfl⟩

theorem witness_LaneStatesKeepTheirTable :
    { with2 9 onLane with pending := [.powerOff 1 2] }.PowerLaw ∧
      ∃ t, step { with2 9 onLane with pending := [.powerOff 1 2] } = .next t := ⟨by decide +kernel, _, rfl⟩

/-- A part whose lane 2 has the repeating key 99 down, a sample being next. -/
def keyHeld : State :=
  { with2 9
      (keys (fun k => { k with cells := k.cells.set 99 { down := true, count := 0, mark := .none } })
        (repeating (due { onLane with keymap := onLane.keymap.set 99 .repeating }))) with
    pending := [.sampleArrival 2 0] }

theorem keyLaw_keyHeld_lane2 : (lane2 keyHeld).KeyLaw :=
  ⟨by decide +kernel, by decide +kernel, by decide +kernel, by decide +kernel, by decide +kernel, by decide +kernel,
    by decide +kernel, by decide +kernel, by decide +kernel⟩

theorem keyLaw_reset_lane : Lane.reset.KeyLaw :=
  ⟨by decide +kernel, by decide +kernel, by decide +kernel, by decide +kernel, by decide +kernel, by decide +kernel,
    by decide +kernel, by decide +kernel, by decide +kernel⟩

theorem witness_KeyboardsKeepTheirLaws : keyHeld.KeyLaw ∧ ∃ t, step keyHeld = .next t := by
  refine ⟨fun l => ?_, _, rfl⟩
  have h : keyHeld.lanes[l] = if l = 2 then lane2 keyHeld else Lane.reset := by
    fin_cases l <;> rfl
  rw [h]
  split
  · exact keyLaw_keyHeld_lane2
  · exact keyLaw_reset_lane

/-- A part whose lane 2 holds the SCAN record of section 4.8, a FETCH being next. -/
def scanHeld : State :=
  { with2 9
      { onLane with
        queue :=
          { records :=
              [{ lane := 2, seq := 0, time := 5, lost := 0
                 body :=
                  .scan codeX (some 3) 2 true false
                    (some { value := 1299, scale := 2, lookup := digits [2, 1, 2, 3, 4, 5, 6, 0, 0, 0, 0, 0, 9] }) }]
            seq := 1, loss := 0, held := 1 } } with
    rules := table3, poolFree := 95, attn := true, pending := [.fetchLane 1 2 8] }

theorem witness_ScannedCodesAreSound : scanHeld.ScanLaw ∧ ∃ t, step scanHeld = .next t := by
  refine ⟨⟨by decide +kernel, fun l => ⟨by decide +kernel +revert, ?_⟩⟩, _, rfl⟩
  have h : ∀ k : LaneId, scanHeld.lanes[k].queue.records =
      if k = 2 then scanHeld.lanes[(2 : LaneId)].queue.records else [] := by decide +kernel
  rw [h l]
  split
  · intro r hr
    obtain rfl := List.mem_singleton.mp hr
    simp only [RecordBody.sound]
    decide +kernel
  · intro r hr
    cases hr

theorem witness_SettingsCountersLinkAndCommandsStayInRange :
    ({ with2 9 onLane with pending := [.laneSetWrite 1 2 setFields] }.SettingsLaw ∧
      { with2 9 onLane with pending := [.laneSetWrite 1 2 setFields] }.CounterLaw ∧
      { with2 9 onLane with pending := [.laneSetWrite 1 2 setFields] }.LinkLaw ∧
      { with2 9 onLane with pending := [.laneSetWrite 1 2 setFields] }.CommandLaw) ∧
      ∃ t, step { with2 9 onLane with pending := [.laneSetWrite 1 2 setFields] } = .next t := ⟨by decide, _, rfl⟩

end Sys2Proof.Tests
end

section
/-!
PROOFS. The key matrix (chapter 2): when a sample is ambiguous (R24), and what a KEYMAP request does (R20).
-/

namespace Sys2Proof.Machine

/-! ### Ambiguity (R24) -/

/-- A crossing of the matrix is in the raw-down set when it is closed and lies inside the configured matrix. -/
theorem LaneCfg.rawDown_posAt (c : LaneCfg) (raw : BitVec 128) (r : Fin 8) (k : Fin 16) :
    c.rawDown raw (posAt r k) = true ↔
      r.val < c.rows ∧ k.val < c.cols ∧ raw.getLsbD (16 * r.val + k.val) = true := by
  have hrow : rowOf (posAt r k) = r.val := by simp only [rowOf, posAt]; omega
  have hcol : colOf (posAt r k) = k.val := by simp only [colOf, posAt]; omega
  have hpos : (posAt r k).val = 16 * r.val + k.val := by simp only [posAt]; omega
  simp [LaneCfg.rawDown, LaneCfg.inMatrix, hrow, hcol, hpos, and_assoc]

theorem mem_sharedColumns (down : KeyPos → Bool) (r₁ r₂ : Fin 8) (k : Fin 16) :
    k ∈ sharedColumns down r₁ r₂ ↔ down (posAt r₁ k) = true ∧ down (posAt r₂ k) = true := by
  simp [sharedColumns]

/-- No column is listed twice, so two columns in the list are two different columns. -/
theorem two_le_length_sharedColumns (down : KeyPos → Bool) (r₁ r₂ : Fin 8) :
    2 ≤ (sharedColumns down r₁ r₂).length ↔
      ∃ c₁ ∈ sharedColumns down r₁ r₂, ∃ c₂ ∈ sharedColumns down r₁ r₂, c₁ ≠ c₂ := by
  have hnodup : (sharedColumns down r₁ r₂).Nodup := (List.nodup_finRange 16).filter _
  have hlength := List.toFinset_card_of_nodup hnodup
  rw [← hlength, ← Nat.lt_iff_add_one_le, Finset.one_lt_card]
  simp only [List.mem_toFinset]

/-- The rows may be named in either order: the model looks at the pairs with the lower row first. -/
theorem ambiguous_iff (down : KeyPos → Bool) :
    ambiguous down = true ↔
      ∃ (r₁ r₂ : Fin 8) (c₁ c₂ : Fin 16), r₁ ≠ r₂ ∧ c₁ ≠ c₂ ∧
        down (posAt r₁ c₁) = true ∧ down (posAt r₁ c₂) = true ∧
        down (posAt r₂ c₁) = true ∧ down (posAt r₂ c₂) = true := by
  have hpairs : ambiguous down = true ↔
      ∃ r₁ r₂, r₁ < r₂ ∧ ∃ c₁ ∈ sharedColumns down r₁ r₂, ∃ c₂ ∈ sharedColumns down r₁ r₂, c₁ ≠ c₂ := by
    simp [ambiguous, two_le_length_sharedColumns]
  simp only [hpairs, mem_sharedColumns]
  constructor
  · rintro ⟨r₁, r₂, hr, c₁, ⟨h₁₁, h₂₁⟩, c₂, ⟨h₁₂, h₂₂⟩, hc⟩
    exact ⟨r₁, r₂, c₁, c₂, hr.ne, hc, h₁₁, h₁₂, h₂₁, h₂₂⟩
  · rintro ⟨r₁, r₂, c₁, c₂, hr, hc, h₁₁, h₁₂, h₂₁, h₂₂⟩
    obtain hlt | hgt := lt_or_gt_of_ne hr
    · exact ⟨r₁, r₂, hlt, c₁, ⟨h₁₁, h₂₁⟩, c₂, ⟨h₁₂, h₂₂⟩, hc⟩
    · exact ⟨r₂, r₁, hgt, c₁, ⟨h₂₁, h₁₁⟩, c₂, ⟨h₂₂, h₁₂⟩, hc⟩

/-- Settles O39: the two rows and columns of `ambiguous_iff`, each crossing read by `LaneCfg.rawDown_posAt`. -/
theorem ambiguityIsTwoRowsSharingTwoColumns : Obligations.AmbiguityIsTwoRowsSharingTwoColumns := by
  unfold Obligations.AmbiguityIsTwoRowsSharingTwoColumns
  intro c raw
  simp only [ambiguous_iff, LaneCfg.rawDown_posAt]
  constructor
  · rintro ⟨r₁, r₂, c₁, c₂, hr, hc, ⟨hr₁, hc₁, h₁₁⟩, ⟨-, hc₂, h₁₂⟩, ⟨hr₂, -, h₂₁⟩, ⟨-, -, h₂₂⟩⟩
    exact ⟨r₁, r₂, c₁, c₂, hr, hc, hr₁, hr₂, hc₁, hc₂, h₁₁, h₁₂, h₂₁, h₂₂⟩
  · rintro ⟨r₁, r₂, c₁, c₂, hr, hc, hr₁, hr₂, hc₁, hc₂, h₁₁, h₁₂, h₂₁, h₂₂⟩
    exact ⟨r₁, r₂, c₁, c₂, hr, hc, ⟨hr₁, hc₁, h₁₁⟩, ⟨hr₁, hc₂, h₁₂⟩, ⟨hr₂, hc₁, h₂₁⟩, ⟨hr₂, hc₂, h₂₂⟩⟩

/-! ### `KeyAttr.ofByte` (R190) -/

theorem KeyAttr.ofByte_eq_none {b : Byte} (h : 7 ≤ b.toNat) : KeyAttr.ofByte b = none := by
  unfold KeyAttr.ofByte
  split
  case h_8 => rfl
  all_goals omega

/-- The bytes from 3 upward in the list name a keylock position. -/
theorem KeyAttr.keylock?_eq_none_iff {b : Byte} {a : KeyAttr} (h : KeyAttr.ofByte b = some a) :
    a.keylock? = none ↔ b.toNat < 3 := by
  unfold KeyAttr.ofByte at h
  split at h <;> cases h <;> simp [KeyAttr.keylock?, *]

/-! ### KEYMAP (R20) -/

theorem Lane.heldElsewhere_eq_false_iff (d : Lane) (a : KeyAttr) (first : Nat) :
    d.heldElsewhere a first = false ↔ ∀ p : KeyPos, p.val ≠ first → d.keymap[p] ≠ a := by
  simp [Lane.heldElsewhere, positions]

/-- The conditions of R20 in terms of the byte sent. -/
theorem Lane.keymapValid_iff (d : Lane) (first count : Nat) {attr : Byte} {a : KeyAttr}
    (ha : KeyAttr.ofByte attr = some a) :
    d.keymapValid first count a = true ↔
      first ≤ 127 ∧ 1 ≤ count ∧ first + count ≤ 128 ∧
        (3 ≤ attr.toNat → count = 1 ∧ ∀ p : KeyPos, p.val ≠ first → d.keymap[p] ≠ a) := by
  simp only [Lane.keymapValid, Bool.and_eq_true, Bool.or_eq_true, decide_eq_true_eq, Bool.not_eq_true',
    KeyAttr.keylock?_eq_none_iff ha, Lane.heldElsewhere_eq_false_iff, and_assoc, ← not_le, ← imp_iff_not_or]

theorem Lane.remapped_getElem (d : Lane) (first count : Nat) (a : KeyAttr) (p : KeyPos) :
    (d.remapped first count a)[p] = if first ≤ p.val ∧ p.val < first + count then a else d.keymap[p] := by
  simp [Lane.remapped]

theorem LaneView.changeKeymap_of_valid (v : LaneView) {first count attr : Byte} {a : KeyAttr}
    (ha : KeyAttr.ofByte attr = some a) (hv : v.ln.keymapValid first.toNat count.toNat a = true) :
    v.changeKeymap first count attr = (v.setKeymap (v.ln.remapped first.toNat count.toNat a), .done) := by
  simp [LaneView.changeKeymap, ha, hv]

theorem LaneView.changeKeymap_of_invalid (v : LaneView) {first count attr : Byte}
    (h : ∀ a, KeyAttr.ofByte attr = some a → ¬v.ln.keymapValid first.toNat count.toNat a = true) :
    v.changeKeymap first count attr = (v, .badField) := by
  unfold LaneView.changeKeymap
  split
  · rfl
  next a ha => rw [if_neg (h a ha)]

/-- The five cases of R20 are those in which the request names no `KeyAttr` or is not valid. -/
theorem Lane.keymap_refused (d : Lane) (first count attr : Byte)
    (h : 7 ≤ attr.toNat ∨ 127 < first.toNat ∨ count.toNat = 0 ∨ 128 < first.toNat + count.toNat ∨
      (3 ≤ attr.toNat ∧ 2 ≤ count.toNat) ∨
      (3 ≤ attr.toNat ∧ ∃ p : KeyPos, p.val ≠ first.toNat ∧ some d.keymap[p] = KeyAttr.ofByte attr)) :
    ∀ a, KeyAttr.ofByte attr = some a → ¬d.keymapValid first.toNat count.toNat a = true := by
  intro a ha hv
  obtain ⟨hfirst, hcount, hend, hkeylock⟩ := (d.keymapValid_iff _ _ ha).mp hv
  obtain hattr | h | h | h | ⟨hattr, h⟩ | ⟨hattr, p, hp, hheld⟩ := h
  · rw [KeyAttr.ofByte_eq_none hattr] at ha
    cases ha
  · omega
  · omega
  · omega
  · have := (hkeylock hattr).1
    omega
  · exact (hkeylock hattr).2 p hp (Option.some.inj (hheld.trans ha))

/-- A request of R14 is refused in SETTLING and ON. -/
theorem whenInactive_powered (v : LaneView) (r : LaneView × Answer) (h : v.ln.powered = true) :
    whenInactive v r = (v, .only .laneActive) := by simp [whenInactive, h]

/-- A request of R14 is served in OFF and TRIPPED. -/
theorem whenInactive_unpowered (v : LaneView) (r : LaneView × Answer) (h : v.ln.powered = false) :
    whenInactive v r = r := by simp [whenInactive, h]

/-- A KEYMAP request to a lane, once it is taken. -/
def LaneView.serveKeymap (v : LaneView) (first count attr : Byte) : LaneView × Answer :=
  whenInactive v (codeOnly (v.changeKeymap first count attr))

/-- A KEYMAP request that is taken acts on the lane it names. -/
theorem exec_keymap (s : State) (tag lane first count attr : Byte) (l : LaneId) (hs : s.ready)
    (hl : lane.toNat = l.val) :
    exec (.keymap tag lane first count attr) s =
      .next ((s.put l ((s.view l).serveKeymap first count attr).1).answered 0x85 tag
        ((s.view l).serveKeymap first count attr).2.code ((s.view l).serveKeymap first count attr).2.body) := by
  have hkind : RequestKind.keymap.byte ≠ 0x0A#8 := by decide
  have hexec : exec (.keymap tag lane first count attr) s = .next (s.request tag (.keymap lane first count attr)) := rfl
  have hserve : s.serve (.keymap lane first count attr) =
      s.answerLane lane fun v => v.serveKeymap first count attr := rfl
  rw [hexec, s.request_ready tag _ hs, hserve, s.answerLane_lane lane l _ hl]
  exact congrArg _ (State.pushReply_answer _ _ tag _ hkind)

theorem exec_keymap_powered (s : State) (tag lane first count attr : Byte) (l : LaneId) (hs : s.ready)
    (hl : lane.toNat = l.val) (h : s.lanes[l].powered = true) :
    exec (.keymap tag lane first count attr) s = .next (s.answered 0x85 tag .laneActive []) := by
  rw [exec_keymap s tag lane first count attr l hs hl, LaneView.serveKeymap, whenInactive_powered _ _ h]
  simp only [State.put_view, Answer.only]

theorem exec_keymap_unpowered (s : State) (tag lane first count attr : Byte) (l : LaneId) (hs : s.ready)
    (hl : lane.toNat = l.val) (h : s.lanes[l].powered = false) :
    exec (.keymap tag lane first count attr) s =
      .next ((s.put l ((s.view l).changeKeymap first count attr).1).answered 0x85 tag
        ((s.view l).changeKeymap first count attr).2 []) := by
  rw [exec_keymap s tag lane first count attr l hs hl, LaneView.serveKeymap, whenInactive_unpowered _ _ h]
  rfl

@[simp] theorem State.answered_lanes (s : State) (kind tag : Byte) (code : ReplyCode) (body : List Byte) :
    (s.answered kind tag code body).lanes = s.lanes := rfl

/-- A lane put with another keymap and nothing else. -/
theorem State.put_setKeymap (s : State) (l : LaneId) (m : Vector KeyAttr 128) :
    s.put l ((s.view l).setKeymap m) = s.withLaneAs l { s.lanes[l] with keymap := m } := rfl

/-- Settles O8, by the power state of the lane and whether the request meets the conditions of R20. -/
theorem keymapGivesOneAttribute : Obligations.KeymapGivesOneAttribute := by
  unfold Obligations.KeymapGivesOneAttribute
  intro s tag lane first count attr l hs hl
  refine ⟨fun hpow => exec_keymap_powered s tag lane first count attr l hs hl hpow, fun hpow => ?_⟩
  have hexec := exec_keymap_unpowered s tag lane first count attr l hs hl hpow
  refine ⟨fun a ha hfirst hcount hend hkeylock => ?_, fun hrefused => ?_⟩
  · have hv := (s.lanes[l].keymapValid_iff _ _ ha).mpr ⟨hfirst, hcount, hend, hkeylock⟩
    rw [(s.view l).changeKeymap_of_valid ha hv, s.put_setKeymap] at hexec
    refine ⟨_, hexec, ⟨_, rfl⟩, fun p => ?_⟩
    rw [State.answered_lanes, State.withLaneAs_lanes_self]
    exact s.lanes[l].remapped_getElem _ _ a p
  · rw [hexec, (s.view l).changeKeymap_of_invalid (s.lanes[l].keymap_refused first count attr hrefused), s.put_view]

end Sys2Proof.Machine
end

section
/-!
PROOFS. The code rule table (chapter 4): what RULE writes and what RULEQ reports (R64, R66).
-/

namespace Sys2Proof.Machine

/-! ### The entry named by an index byte -/

theorem State.writeRule_store (s : State) {index : Byte} {i : RuleIdx} {f : RuleFields} {r : CodeRule}
    (hi : index.toNat = i.val) (hr : f.store = some r) :
    s.writeRule index f = ({ s with rules := s.rules.set i r }, .done) := by
  simp only [State.writeRule, hi, dif_pos i.isLt, hr]

/-- A RULE is refused for its index or for its fields, and either way the state is as before. -/
theorem State.writeRule_refused (s : State) {index : Byte} {f : RuleFields}
    (h : 16 ≤ index.toNat ∨ f.store = none) : s.writeRule index f = (s, .badField) := by
  unfold State.writeRule
  obtain hindex | hfields := h
  · rw [dif_neg (Nat.not_lt.mpr hindex)]
  · rw [hfields]
    exact dite_eq_ite.trans (ite_self _)

theorem State.serveRuleQ_entry (s : State) {index : Byte} {i : RuleIdx} (hi : index.toNat = i.val) :
    s.serveRuleQ index = (s, { code := .done, body := s.rules[i].bytes }) := by
  simp only [State.serveRuleQ, hi, dif_pos i.isLt, Fin.getElem_fin]

theorem State.serveRuleQ_outside (s : State) {index : Byte} (h : 16 ≤ index.toNat) :
    s.serveRuleQ index = (s, .only .badField) :=
  dif_neg (Nat.not_lt.mpr h)

/-! ### RULE and RULEQ once taken -/

/-- The reply to a RULE is its code alone. -/
theorem exec_rule (s : State) (tag index : Byte) (f : RuleFields) (hs : s.ready) :
    exec (.rule tag index f) s =
      .next ((s.writeRule index f).1.answered 0x86 tag (s.writeRule index f).2 []) := by
  have hkind : RequestKind.rule.byte ≠ 0x0A#8 := by decide
  have hexec : exec (.rule tag index f) s = .next (s.request tag (.rule index f)) := rfl
  have hserve : s.serve (.rule index f) = s.serveRule index f := rfl
  rw [hexec, s.request_ready tag _ hs, hserve]
  exact congrArg _ (State.pushReply_answer _ _ tag _ hkind)

theorem exec_ruleQ (s : State) (tag index : Byte) (hs : s.ready) :
    exec (.ruleQ tag index) s =
      .next ((s.serveRuleQ index).1.answered 0x87 tag (s.serveRuleQ index).2.code (s.serveRuleQ index).2.body) := by
  have hkind : RequestKind.ruleQ.byte ≠ 0x0A#8 := by decide
  have hexec : exec (.ruleQ tag index) s = .next (s.request tag (.ruleQ index)) := rfl
  have hserve : s.serve (.ruleQ index) = s.serveRuleQ index := rfl
  rw [hexec, s.request_ready tag _ hs, hserve]
  exact congrArg _ (State.pushReply_answer _ _ tag _ hkind)

/-- Settles O6: a RULE stored and refused, then a RULEQ of an entry and beyond the table. -/
theorem ruleTableIsWrittenAndRead : Obligations.RuleTableIsWrittenAndRead := by
  unfold Obligations.RuleTableIsWrittenAndRead
  refine ⟨fun s tag index i f r hs hi hr => ?stored, fun s tag index f hs h => ?refused,
    fun s tag index i hs hi => ?entry, fun s tag index hs h => ?outside⟩
  case stored => rw [exec_rule s tag index f hs, s.writeRule_store hi hr]
  case refused => rw [exec_rule s tag index f hs, s.writeRule_refused h]
  case entry => rw [exec_ruleQ s tag index hs, s.serveRuleQ_entry hi]
  case outside => rw [exec_ruleQ s tag index hs, s.serveRuleQ_outside h, Answer.only]

end Sys2Proof.Machine
end

section
/-!
PROOFS. The drawer requests (chapter 6): what CLRFAULT does (R120), on the rules for a live state handed to the condition
monitor by an event that left the reporting side of its lane as it found it (R132).
-/

namespace Sys2Proof.Machine

/-! ### A class B record offered (R91, R93, R95) -/

/-- A class B record takes no slot from the pool, and no offer raises an alarm. -/
theorem LaneView.offer_quiet (v : LaneView) (b : RecordBody) (hb : b.classA = false) :
    (v.offer b).free = v.free ∧ (v.offer b).alarms = v.alarms := by
  refine ⟨?_, (v.offer_frame b).alarms⟩
  cases h : v.takes b
  · rw [v.offer_refusedB b h hb, LaneView.setQueue_free]
  · obtain ⟨-, -, hfree, -⟩ := v.offer_taken b h
    rw [hfree, RecordBody.slots_classB b hb, Nat.sub_zero]

/-- The part of lane `l` that record offers and the condition monitor work from stands in the view as in the state: an
event that has so far changed other parts of the lane alone keeps it. -/
structure LaneView.ReportsFrom (v : LaneView) (s : State) (l : LaneId) : Prop where
  id : v.id = l
  now : v.now = s.timeBase
  attn : v.attn = s.attn
  queue : v.ln.queue = s.lanes[l].queue
  live : v.ln.live = s.lanes[l].live
  set : v.ln.set = s.lanes[l].set
  power : v.ln.power = s.lanes[l].power

theorem LaneView.ReportsFrom.setDrawer (s : State) (l : LaneId) (x : Drawer) :
    ((s.view l).setDrawer x).ReportsFrom s l := ⟨rfl, rfl, rfl, rfl, rfl, rfl, rfl⟩

section

variable {s t : State} {l : LaneId} {v : LaneView}

/-- A view's record is the one the state gives lane `l`. -/
theorem LaneView.ReportsFrom.record_eq (h : v.ReportsFrom s l) (b : RecordBody) : v.record b = s.recordOf l b := by
  simp only [LaneView.record, State.recordOf, h.id, h.now, h.queue]

/-- The offer is seen through the live state the monitor has just replaced, which the queue does not read. -/
theorem LaneView.ReportsFrom.offeredB (h : v.ReportsFrom s l) (c : Condition) (live : Bool) (b : RecordBody)
    (hb : b.classA = false) (hln : t.lanes[l] = ((v.setLive c live).offer b).ln)
    (hattn : t.attn = ((v.setLive c live).offer b).attn) : s.OfferedB t l b := by
  have htakes : (v.setLive c live).takes b = decide (s.lanes[l].count < 32) := by
    rw [LaneView.takes_classB _ b hb, Lane.count, Lane.count, ← h.queue]
    rfl
  refine ⟨fun hroom => ?_, fun hfull => ?_⟩
  · obtain ⟨⟨more, hrecords, hmore⟩, -⟩ :=
      (v.setLive c live).offer_taken b (htakes.trans (decide_eq_true hroom))
    refine ⟨more, ?_, fun m hm => (hmore m hm).1⟩
    rw [hln, hrecords, ← h.record_eq b, ← h.queue]
    rfl
  · rw [hln, hattn, LaneView.offer_refusedB _ b (htakes.trans (decide_eq_false (Nat.not_lt.mpr hfull))) hb,
      ← h.queue, ← h.attn]
    exact ⟨rfl, rfl⟩

end

/-! ### A live state handed over (R132) -/

theorem LaneView.handOver_same (v : LaneView) (c : Condition) (b : Bool) (h : v.ln.on = false ∨ v.ln.liveOf c = b) :
    v.handOver c b = v := by
  unfold LaneView.handOver
  obtain h | h := h <;> simp [h]

theorem LaneView.handOver_unreported (v : LaneView) (c : Condition) (b : Bool) (hon : v.ln.on = true)
    (hne : v.ln.liveOf c ≠ b) (hr : ¬v.ln.Reports c b) : v.handOver c b = v.setLive c b := by
  have hmode : ¬((v.setLive c b).ln.modeOf c).reports b = true := fun e => hr ((v.ln.reports_iff c b).mp e)
  simp [LaneView.handOver, hon, hne, hmode]

theorem LaneView.handOver_reported (v : LaneView) (c : Condition) (b : Bool) (hon : v.ln.on = true)
    (hne : v.ln.liveOf c ≠ b) (hr : v.ln.Reports c b) :
    v.handOver c b = (v.setLive c b).offer (.condition c b) := by
  have hmode : ((v.setLive c b).ln.modeOf c).reports b = true := (v.ln.reports_iff c b).mpr hr
  simp [LaneView.handOver, hon, hne, hmode]

/-- The three outcomes of handing over a live state. -/
theorem LaneView.handOver_cases (v : LaneView) (c : Condition) (b : Bool) :
    v.handOver c b = v ∨ v.handOver c b = v.setLive c b ∨
      v.handOver c b = (v.setLive c b).offer (.condition c b) := by
  unfold LaneView.handOver
  dsimp only
  split
  · split
    · exact .inr (.inr rfl)
    · exact .inr (.inl rfl)
  · exact .inl rfl

/-- A CONDITION record holds no slot, and the monitor raises no alarm. -/
theorem LaneView.handOver_quiet (v : LaneView) (c : Condition) (b : Bool) :
    (v.handOver c b).free = v.free ∧ (v.handOver c b).alarms = v.alarms := by
  obtain h | h | h := v.handOver_cases c b <;> rw [h]
  · exact ⟨rfl, rfl⟩
  · exact ⟨rfl, rfl⟩
  · exact (v.setLive c b).offer_quiet (.condition c b) rfl

/-- Handing over one condition leaves the live states of the others, SCANNER_HELD apart. -/
theorem LaneView.handOver_others (v : LaneView) (c : Condition) (b : Bool) {k : Condition} (hk : k ≠ c)
    (hheld : k ≠ .scannerHeld) : (v.handOver c b).ln.liveOf k = v.ln.liveOf k := by
  obtain h | h := v.handOver_frame c b
  · rw [h]
  · exact (h.ln.live k hheld).trans (v.setLive_other c k b hk)

/-- A change that no record reports changes neither the queue nor ATTN. -/
theorem LaneView.handOver_silent (v : LaneView) (c : Condition) (b : Bool)
    (h : v.ln.on = false ∨ v.ln.liveOf c = b ∨ ¬v.ln.Reports c b) :
    (v.handOver c b).ln.queue = v.ln.queue ∧ (v.handOver c b).attn = v.attn := by
  by_cases hsame : v.ln.on = false ∨ v.ln.liveOf c = b
  · rw [v.handOver_same c b hsame]
    exact ⟨rfl, rfl⟩
  · obtain ⟨hon, hne⟩ := not_or.mp hsame
    have hr : ¬v.ln.Reports c b := (h.resolve_left hon).resolve_left hne
    rw [v.handOver_unreported c b (Bool.of_not_eq_false hon) hne hr]
    exact ⟨rfl, rfl⟩

/-- A mode that is OFF, or RISE at a fall, covers no report. -/
theorem Lane.not_reports {d : Lane} {c : Condition} {b : Bool}
    (h : d.modeOf c = .off ∨ (d.modeOf c = .rise ∧ b = false)) : ¬d.Reports c b := by
  obtain h | ⟨h, hb⟩ := h <;> simp [Lane.Reports, *]

/-- A live state handed over by an event that has left the reporting side of its lane as it found it. -/
theorem LaneView.ReportsFrom.monitored {s t : State} {l : LaneId} {v : LaneView} (h : v.ReportsFrom s l)
    (c : Condition) (b : Bool) (hc : c ≠ .scannerHeld) (hln : t.lanes[l] = (v.handOver c b).ln)
    (hattn : t.attn = (v.handOver c b).attn) : s.Monitored t l c b := by
  have hon : v.ln.on = s.lanes[l].on := by simp only [Lane.on, h.power]
  have hlive (k : Condition) : v.ln.liveOf k = s.lanes[l].liveOf k := by simp only [Lane.liveOf, h.live]
  have hmode : v.ln.modeOf c = s.lanes[l].modeOf c := by simp only [Lane.modeOf, h.set]
  refine ⟨?live, fun k hk hheld => ?others, fun hOn hne hr => ?reported, fun hu => ?unreported⟩
  case live => rw [hln, v.handOver_live c b hc, hon, hlive]
  case others => rw [hln, v.handOver_others c b hk hheld, hlive]
  case reported =>
    rw [← hon] at hOn
    rw [← hlive] at hne
    rw [← hmode] at hr
    rw [v.handOver_reported c b hOn hne hr] at hln hattn
    exact h.offeredB c b (.condition c b) rfl hln hattn
  case unreported =>
    rw [← hon, ← hlive, ← hmode] at hu
    obtain ⟨hqueue, hsame⟩ := v.handOver_silent c b (hu.imp_right (Or.imp_right Lane.not_reports))
    rw [State.SameQueue, hln, hattn, hqueue, hsame]
    exact ⟨h.queue, h.attn⟩

/-! ### CLRFAULT (R120) -/

/-- The view with the driver-fault latch cleared and nothing else changed. -/
abbrev LaneView.unlatched (v : LaneView) : LaneView := v.setDrawer { v.ln.drawer with fault := false }

theorem LaneView.clearFault_clear (v : LaneView) (h : v.ln.drawer.fault = false) : v.clearFault = v := by
  simp [LaneView.clearFault, h]

theorem LaneView.clearFault_latched (v : LaneView) (h : v.ln.drawer.fault = true) :
    v.clearFault = v.unlatched.handOver .driverFault false := by
  simp [LaneView.clearFault, h]

theorem LaneView.clearFault_quiet (v : LaneView) :
    v.clearFault.free = v.free ∧ v.clearFault.alarms = v.alarms := by
  unfold LaneView.clearFault
  split
  · exact LaneView.handOver_quiet _ _ _
  · exact ⟨rfl, rfl⟩

/-- The reply and the event of the lane do not touch each other. -/
theorem State.put_answered (s : State) (l : LaneId) (f : LaneView → LaneView) (kind tag : Byte) (code : ReplyCode)
    (body : List Byte) :
    (s.put l (f (s.view l))).answered kind tag code body = (s.answered kind tag code body).onLane l f := rfl

/-- A CLRFAULT request that is taken is answered DONE in every lane state and acts on the lane it names. -/
theorem exec_clrFault (s : State) (tag lane : Byte) (l : LaneId) (hs : s.ready) (hl : lane.toNat = l.val) :
    exec (.clrFault tag lane) s = .next ((s.answered 0x91 tag .done []).onLane l LaneView.clearFault) := by
  have hkind : RequestKind.clrFault.byte ≠ 0x0A#8 := by decide
  have hexec : exec (.clrFault tag lane) s = .next (s.request tag (.clrFault lane)) := rfl
  have hserve : s.serve (.clrFault lane) = s.answerLane lane fun v => (v.clearFault, .only .done) := rfl
  rw [hexec, s.request_ready tag _ hs, hserve, s.answerLane_lane lane l _ hl, ← s.put_answered]
  exact congrArg _ (State.pushReply_answer _ _ tag _ hkind)

/-- Settles O23, by whether the latch is set. -/
theorem clrFaultClearsTheLatchAlone : Obligations.ClrFaultClearsTheLatchAlone := by
  unfold Obligations.ClrFaultClearsTheLatchAlone
  intro s tag lane l hs hl
  rw [exec_clrFault s tag lane l hs hl]
  refine ⟨fun hclear => ?clear, fun hset => ⟨_, rfl, ?quiet, ?handedOver, ?monitored⟩⟩
  case clear => exact congrArg _ (State.onLane_same _ l _ ((s.view l).clearFault_clear hclear))
  case quiet =>
    obtain ⟨hfree, halarms⟩ := (s.view l).clearFault_quiet
    exact ⟨State.onLane_frame _ l _, hfree, halarms⟩
  all_goals
    have hlatched := (s.view l).clearFault_latched hset
    have hln : ((s.answered 0x91 tag .done []).onLane l LaneView.clearFault).lanes[l] = (s.view l).clearFault.ln :=
      State.onLane_lanes_self _ l _
    rw [hlatched] at hln
  case handedOver =>
    rw [hln]
    exact (s.view l).unlatched.handOver_handedOver .driverFault false
  case monitored =>
    exact (LaneView.ReportsFrom.setDrawer s l _).monitored .driverFault false (by decide) hln
      (congrArg LaneView.attn hlatched)

end Sys2Proof.Machine
end

section
/-!
PROOFS. ATTN and the waiting records (R160). Outside a FETCH and a device reset no record leaves a queue, so an
operation on a lane keeps the law of ATTN when it asserts ATTN with every record it adds. The rules for the operations
say so, each proof in the shape of its definition; FETCH and device reset have arguments of their own.
-/

namespace Sys2Proof.Machine

/-! ### Records that wait in a view -/

/-- Some record waits, alarm or of the view's own lane. -/
def LaneView.waiting (v : LaneView) : Bool := decide (v.alarms ≠ []) || v.ln.waiting

theorem LaneView.waiting_iff (v : LaneView) : v.waiting = true ↔ v.alarms ≠ [] ∨ v.ln.queue.records ≠ [] := by
  simp [LaneView.waiting, Lane.waiting]

/-- From `v` to `w` ATTN and the waiting of a record were either left as they were or both made true. -/
def LaneView.Announced (v w : LaneView) : Prop :=
  ∃ added : Bool, w.attn = (v.attn || added) ∧ w.waiting = (v.waiting || added)

/-- A record waits in a lane other than `l`. -/
def State.waitingBeside (s : State) (l : LaneId) : Bool :=
  (List.finRange 8).any fun k => decide (k ≠ l) && s.lanes[k].waiting

theorem State.waiting_iff (s : State) :
    s.waiting = true ↔ s.alarms ≠ [] ∨ ∃ k : LaneId, s.lanes[k].waiting = true := by
  have hlanes : s.lanes.toList.any Lane.waiting = true ↔ ∃ k : LaneId, s.lanes[k].waiting = true := by
    rw [Vector.any_toList, Vector.any_eq_true]
    exact ⟨fun ⟨i, hi, h⟩ => ⟨⟨i, hi⟩, h⟩, fun ⟨k, h⟩ => ⟨k, k.isLt, h⟩⟩
  rw [State.waiting, Bool.or_eq_true, decide_eq_true_eq, hlanes]

theorem State.put_waiting (s : State) (l : LaneId) (v : LaneView) :
    (s.put l v).waiting = (v.waiting || s.waitingBeside l) := by
  have hlanes : (∃ k : LaneId, (s.put l v).lanes[k].waiting = true) ↔
      v.ln.waiting = true ∨ ∃ k : LaneId, k ≠ l ∧ s.lanes[k].waiting = true := by
    constructor
    · rintro ⟨k, hk⟩
      by_cases h : k = l
      · subst h
        rw [State.put_lanes_self] at hk
        exact .inl hk
      · rw [State.put_lanes_other s l k v h] at hk
        exact .inr ⟨k, h, hk⟩
    · rintro (h | ⟨k, hne, hk⟩)
      · exact ⟨l, by rwa [State.put_lanes_self]⟩
      · exact ⟨k, by rwa [State.put_lanes_other s l k v hne]⟩
  rw [Bool.eq_iff_iff, State.waiting_iff, hlanes]
  simp [LaneView.waiting, State.waitingBeside, or_assoc]

theorem State.view_waiting (s : State) (l : LaneId) :
    s.waiting = ((s.view l).waiting || s.waitingBeside l) := by
  rw [← s.put_waiting l (s.view l), s.put_view]

/-! ### Operations that announce what they add -/

namespace LaneView.Announced

variable {u v w : LaneView}

theorem refl : v.Announced v := ⟨false, by simp, by simp⟩

theorem trans (h : u.Announced v) (k : v.Announced w) : u.Announced w := by
  obtain ⟨a, hattn, hwait⟩ := h
  obtain ⟨b, kattn, kwait⟩ := k
  exact ⟨a || b, by rw [kattn, hattn, Bool.or_assoc], by rw [kwait, hwait, Bool.or_assoc]⟩

/-! A choice announces what it adds when both its ways do; the proofs below nest the two lemmas as the definitions nest
their choices. -/

theorem branch {c : Prop} [Decidable c] (hv : u.Announced v) (hw : u.Announced w) :
    u.Announced (if c then v else w) := by
  split
  · exact hv
  · exact hw

theorem branchFst {α : Type} {c : Prop} [Decidable c] {p q : LaneView × α} (hp : u.Announced p.1)
    (hq : u.Announced q.1) : u.Announced (if c then p else q).1 := by
  split
  · exact hp
  · exact hq

/-! The parts of a lane other than its queue: neither ATTN nor the waiting of a record depends on them, so each lemma is
its hypothesis. -/

theorem setPower (h : u.Announced v) (x : PowerCtl) : u.Announced (v.setPower x) := h
theorem setKeys (h : u.Announced v) (x : KeyScanner) : u.Announced (v.setKeys x) := h
theorem setPort (h : u.Announced v) (x : ScannerPort) : u.Announced (v.setPort x) := h
theorem setFilter (h : u.Announced v) (x : DupFilter) : u.Announced (v.setFilter x) := h
theorem setDrawer (h : u.Announced v) (x : Drawer) : u.Announced (v.setDrawer x) := h
theorem setCounters (h : u.Announced v) (x : Counters) : u.Announced (v.setCounters x) := h
theorem setReport (h : u.Announced v) (x : Option Time) : u.Announced (v.setReport x) := h
theorem setChecker (h : u.Announced v) (x : LineChecker) : u.Announced (v.setChecker x) := h
theorem setPins (h : u.Announced v) (x : LanePins) : u.Announced (v.setPins x) := h
theorem setCfg (h : u.Announced v) (x : LaneCfg) : u.Announced (v.setCfg x) := h
theorem setKeymap (h : u.Announced v) (x : Vector KeyAttr 128) : u.Announced (v.setKeymap x) := h
theorem setSet (h : u.Announced v) (x : LaneSet) : u.Announced (v.setSet x) := h
theorem setLive (h : u.Announced v) (c : Condition) (b : Bool) : u.Announced (v.setLive c b) := h
theorem setRx (h : u.Announced v) (rx : Receiver) : u.Announced (v.setRx rx) := h
theorem raise (h : u.Announced v) (c : CounterName) : u.Announced (v.raise c) := h

/-! The shared operations. -/

/-- Records appended to the lane queue, ATTN asserted when there are any. -/
theorem appended (h : u.Announced v) {more : List LaneRecord} (halarms : w.alarms = v.alarms)
    (hrecords : w.ln.queue.records = v.ln.queue.records ++ more)
    (hattn : w.attn = (v.attn || decide (more ≠ []))) : u.Announced w :=
  h.trans ⟨decide (more ≠ []), hattn, by simp [LaneView.waiting, Lane.waiting, halarms, hrecords, Bool.or_assoc]⟩

theorem setReasons (h : u.Announced v) (r : Reasons) : u.Announced (v.setReasons r) := by
  obtain ⟨p, hp, -⟩ := v.setReasons_eq r
  rw [hp]
  exact h.setPort p

theorem evalFlow (h : u.Announced v) (n : Nat) : u.Announced (v.evalFlow n) := by
  obtain ⟨hframe, -, ⟨more, hrecords, -, hattn⟩, -⟩ := v.evalFlow_spec n
  exact h.appended hframe.alarms hrecords hattn

theorem offer (h : u.Announced v) (b : RecordBody) : u.Announced (v.offer b) := by
  obtain ⟨more, hrecords, hattn⟩ := v.offer_records b
  exact h.appended (v.offer_frame b).alarms hrecords hattn

theorem handOver (h : u.Announced v) (c : Condition) (b : Bool) : u.Announced (v.handOver c b) := by
  obtain e | e | e := v.handOver_cases c b <;> rw [e]
  · exact h
  · exact h.setLive c b
  · exact (h.setLive c b).offer _

theorem alarm (h : u.Announced v) (kind : AlarmKind) : u.Announced (v.alarm kind) :=
  h.trans ⟨true, by simp [LaneView.alarm], by simp [LaneView.alarm, LaneView.waiting, raiseAlarm_ne_nil]⟩

theorem closeCounters (h : u.Announced v) (before : Counters) : u.Announced (v.closeCounters before) :=
  .branch h (h.handOver _ _)

theorem offerTone (h : u.Announced v) (t : Tone) : u.Announced (v.offerTone t) := .branch (h.setPort _) h

theorem confirmTone (h : u.Announced v) (t : Tone) : u.Announced (v.confirmTone t) := .branch (h.offerTone t) h

theorem foldl {α : Type} {f : LaneView → α → LaneView}
    (hf : ∀ {x : LaneView} (a : α), u.Announced x → u.Announced (f x a)) (as : List α) (h : u.Announced v) :
    u.Announced (as.foldl f v) := by
  induction as generalizing v with
  | nil => exact h
  | cons a as ih => exact ih (hf a h)

/-! Codes (chapter 4). -/

theorem rejected (h : u.Announced v) (code : Code) (reason : RejectReason) (rule : Option RuleIdx) :
    u.Announced (v.rejected code reason rule) :=
  .branch (((h.raise _).offer _).confirmTone _) ((((h.raise _).offer _).raise _).confirmTone _)

theorem accepted (h : u.Announced v) (code : Code) (rule : Option RuleIdx) (tag : Fin 16) (checked : Bool)
    (value : Option ValuePart) : u.Announced (v.accepted code rule tag checked value) :=
  .branch ((((h.offer _).raise _).setFilter _).confirmTone _) (((h.offer _).raise _).confirmTone _)

theorem suppressed (h : u.Announced v) : u.Announced v.suppressed := (h.raise _).setFilter _

theorem checkCode (h : u.Announced v) (rules : Vector CodeRule 16) (code : Code) :
    u.Announced (v.checkCode rules code) := by
  unfold LaneView.checkCode
  refine closeCounters ?_ _
  split
  · exact h.rejected _ _ _
  · exact .branch h.suppressed (h.accepted _ _ _ _ _)

theorem windowExpiry (h : u.Announced v) : u.Announced v.windowExpiry := .branch (h.setFilter _) h

/-! The line check (chapter 9). -/

theorem startCheck (h : u.Announced v) (seconds : Nat) : u.Announced (v.startCheck seconds) :=
  (h.setPort _).setChecker _

theorem closeCheck (h : u.Announced v) (cause : EndCause) : u.Announced (v.closeCheck cause) :=
  ((h.setChecker _).offer _).setChecker _

theorem endCheck (h : u.Announced v) (cause : EndCause) : u.Announced (v.endCheck cause) :=
  (h.closeCheck cause).setPort _

theorem checkStart (h : u.Announced v) (duration : Byte) : u.Announced (v.checkStart duration).1 :=
  .branchFst h (h.startCheck _)

theorem checkStop (h : u.Announced v) : u.Announced v.checkStop.1 := .branchFst (h.endCheck _) h

theorem checkInsert (h : u.Announced v) : u.Announced v.checkInsert.1 := .branchFst h (.branchFst h (h.setChecker _))

theorem checkByteSent (h : u.Announced v) : u.Announced v.checkByteSent := .branch (h.setChecker _) h

theorem checkTimerExpiry (h : u.Announced v) : u.Announced v.checkTimerExpiry := .branch (h.endCheck _) h

/-! Lane power (chapter 1). -/

/-- The lane-local reset keeps the lane queue (R10). -/
theorem leave (h : u.Announced v) (dest : LaneState) : u.Announced { v with ln := v.ln.leave dest } := h

theorem leaveFor (h : u.Announced v) (dest : LaneState) : u.Announced (v.leaveFor dest) :=
  (leave (.branch (h.closeCheck _) h) dest).offer _

theorem trip (h : u.Announced v) : u.Announced v.trip := (h.alarm _).leaveFor _

theorem enterSettling (h : u.Announced v) : u.Announced v.enterSettling := by
  have hrecorded := (h.setPower (Machine.enteringSettling v.now)).offer (.lane .settling none)
  exact .branch hrecorded.trip hrecorded

theorem startBlocks (h : u.Announced v) : u.Announced v.startBlocks := h

theorem evaluateConditions (h : u.Announced v) : u.Announced v.evaluateConditions :=
  h.foldl (fun _ hx => hx.handOver _ _) _

theorem startReport (h : u.Announced v) : u.Announced v.startReport := h.setReport _

theorem enterOn (h : u.Announced v) : u.Announced v.enterOn := by
  have hstarted := (h.offer (.lane .on v.ln.power.progress)).startBlocks.evaluateConditions
  unfold LaneView.enterOn
  dsimp only
  split
  · exact hstarted.startReport
  · exact hstarted

theorem passMilestone (h : u.Announced v) : u.Announced v.passMilestone := by
  unfold LaneView.passMilestone
  split
  · exact .branch (h.setPower _).enterOn (h.setPower _)
  · exact h

theorem settleExpiry (h : u.Announced v) : u.Announced v.settleExpiry := .branch h.passMilestone h

theorem powerOn (h : u.Announced v) : u.Announced v.powerOn.1 := by
  unfold LaneView.powerOn
  split
  · exact h.enterSettling
  all_goals exact h

theorem powerOff (h : u.Announced v) : u.Announced v.powerOff.1 := by
  unfold LaneView.powerOff
  split
  case h_1 => exact h
  case h_3 => exact .branchFst h (h.leaveFor _)
  all_goals exact h.leaveFor _

theorem pflTrip (h : u.Announced v) : u.Announced (if v.ln.powered then v.trip else v) := .branch h.trip h

/-! Counters (chapter 7). -/

theorem reportExpiry (h : u.Announced v) : u.Announced v.reportExpiry := by
  unfold LaneView.reportExpiry
  split
  · exact h
  · exact .branch ((setReport (.branch ((h.offer _).setCounters _) (h.offer _)) _).closeCounters _) h

theorem countsRequest (h : u.Announced v) (clear : Bool) : u.Announced (v.countsRequest clear).1 := by
  unfold LaneView.countsRequest
  split
  case h_2 => exact (h.setCounters _).closeCounters _
  all_goals exact h

/-! The drawer (chapter 6). -/

theorem offerDrawer (h : u.Announced v) (e : DrawerEvent) : u.Announced (v.offerDrawer e) := h.offer _

theorem setDrawerReason (h : u.Announced v) (present : Bool) : u.Announced (v.setDrawerReason present) :=
  h.setReasons _

theorem enterOpen (h : u.Announced v) : u.Announced v.enterOpen :=
  .branch ((h.setDrawer _).setDrawerReason _) (h.setDrawer _)

theorem openFromAwait (h : u.Announced v) : u.Announced v.openFromAwait :=
  (h.setDrawer _).enterOpen.offerDrawer _

theorem cutPulse (h : u.Announced v) : u.Announced v.cutPulse := h.setDrawer _

theorem enterAwaitOpen (h : u.Announced v) : u.Announced v.enterAwaitOpen :=
  .branch (h.setDrawer _).openFromAwait (h.setDrawer _)

theorem grant (h : u.Announced v) (source : ReleaseSource) : u.Announced (v.grant source) :=
  (h.setDrawer _).offer _

theorem hostRelease (h : u.Announced v) : u.Announced v.hostRelease.1 := .branch (h.grant _) h

theorem localAttempt (h : u.Announced v) : u.Announced v.localAttempt := .branch (h.grant _) (h.offer _)

theorem firstSense (h : u.Announced v) (level : Sense) : u.Announced (v.firstSense level) := by
  cases level with
  | closed => exact (h.setDrawer _).offerDrawer _
  | opened => exact h.enterOpen.offerDrawer _

theorem forcedOpening (h : u.Announced v) : u.Announced v.forcedOpening := (h.enterOpen.offerDrawer _).alarm _

theorem closing (h : u.Announced v) : u.Announced v.closing :=
  have henabled {x y : Drawer} {b : RecordBody} := (((h.setDrawer x).offer b).setDrawer y).setDrawerReason false
  .branch (henabled.handOver _ _) henabled

theorem senseChange (h : u.Announced v) (level : Sense) : u.Announced (v.senseChange level) := by
  unfold LaneView.senseChange
  split
  case h_1 => exact h.firstSense _
  case h_2 => exact h.forcedOpening
  case h_5 => exact h.openFromAwait
  case h_7 | h_8 => exact h.closing
  all_goals exact h

theorem stabilityExpiry (h : u.Announced v) : u.Announced v.stabilityExpiry := by
  unfold LaneView.stabilityExpiry
  split
  · exact h
  · exact .branch (.branch (h.setDrawer _) ((h.setDrawer _).senseChange _)) h

theorem dsnChange (h : u.Announced v) (level : Sense) : u.Announced (v.dsnChange level) := .branch (h.setDrawer _) h

theorem pulseExpiry (h : u.Announced v) : u.Announced v.pulseExpiry :=
  .branch (.branch (h.cutPulse.enterOpen.offerDrawer _) h.cutPulse.enterAwaitOpen) h

theorem docAssert (h : u.Announced v) : u.Announced v.docAssert :=
  .branch (((h.cutPulse.setDrawer _).alarm _).enterAwaitOpen.handOver _ _) h

theorem confirmExpiry (h : u.Announced v) : u.Announced v.confirmExpiry := .branch ((h.setDrawer _).offerDrawer _) h

theorem openLongExpiry (h : u.Announced v) : u.Announced v.openLongExpiry :=
  .branch (((h.setDrawer _).offerDrawer _).handOver _ _) h

theorem clearFault (h : u.Announced v) : u.Announced v.clearFault := .branch ((h.setDrawer _).handOver _ _) h

theorem lockdownCut (h : u.Announced v) : u.Announced v.lockdownCut := .branch h.cutPulse.enterAwaitOpen h

/-! The key matrix (chapter 2). -/

theorem releaseKey (h : u.Announced v) (p : KeyPos) : u.Announced (v.releaseKey p) :=
  .branch ((h.setKeys _).offer _) (h.setKeys _)

theorem afterReleases (h : u.Announced v) : u.Announced v.afterReleases := h.setKeys _

theorem keylockStage (h : u.Announced v) : u.Announced v.keylockStage := .branch (h.setKeys _) ((h.setKeys _).offer _)

theorem keyTaken (h : u.Announced v) (p : KeyPos) : u.Announced (v.keyTaken p) :=
  .branch ((h.setKeys _).setFilter _).localAttempt ((h.setKeys _).setFilter _)

theorem pressKey (h : u.Announced v) (p : KeyPos) : u.Announced (v.pressKey p) :=
  .branch (h.setKeys _) (.branch (h.setKeys _) (.branch ((h.offer _).keyTaken _) ((h.setKeys _).raise _)))

theorem statusStage (h : u.Announced v) : u.Announced v.statusStage :=
  ((h.handOver _ _).handOver _ _).handOver _ _

theorem processSample (h : u.Announced v) (raw : BitVec 128) : u.Announced (v.processSample raw) := by
  have hreleased (ups : List KeyPos) :=
    ((h.setKeys (v.ln.sampledKeys v.now raw)).foldl (fun p hx => hx.releaseKey p) ups).afterReleases
  have hpressed (ups downs : List KeyPos) := (hreleased ups).keylockStage.foldl (fun p hx => hx.pressKey p) downs
  exact (hpressed _ _).statusStage.closeCounters _

theorem sampleArrival (h : u.Announced v) (raw : BitVec 128) : u.Announced (v.sampleArrival raw) :=
  .branch (h.processSample raw) h

theorem typematicExpiry (h : u.Announced v) : u.Announced v.typematicExpiry := by
  unfold LaneView.typematicExpiry
  split
  · exact h
  · exact .branch ((h.offer _).setKeys _) h

theorem changeKeymap (h : u.Announced v) (first count attr : Byte) :
    u.Announced (v.changeKeymap first count attr).1 := by
  unfold LaneView.changeKeymap
  split
  · exact h
  · exact .branchFst (h.setKeymap _) h

/-! The scanner port (chapter 3). -/

theorem startFrame (h : u.Announced v) : u.Announced v.startFrame := h.setRx _

theorem abortFrame (h : u.Announced v) : u.Announced v.abortFrame :=
  (((h.setRx _).raise _).confirmTone _).closeCounters _

theorem completeFrame (h : u.Announced v) (rules : Vector CodeRule 16) (code : Code) :
    u.Announced (v.completeFrame rules code) := (h.setRx _).checkCode rules code

theorem byteInFrame (h : u.Announced v) (b : Byte) : u.Announced (v.byteInFrame b) := by
  unfold LaneView.byteInFrame
  dsimp only
  split
  · split
    · exact h.setRx _
    · exact h.abortFrame
  · exact .branch (.branch h.abortFrame (h.setRx _)) (.branch (.branch (h.setRx _) h.abortFrame) h.abortFrame)

theorem byteAsBcc (h : u.Announced v) (rules : Vector CodeRule 16) (b : Byte) : u.Announced (v.byteAsBcc rules b) := by
  unfold LaneView.byteAsBcc
  split
  · exact .branch (h.completeFrame _ _) h.abortFrame
  · exact h.abortFrame

theorem receiveByte (h : u.Announced v) (rules : Vector CodeRule 16) (b : Byte) (stopError : Bool) :
    u.Announced (v.receiveByte rules b stopError) := by
  unfold LaneView.receiveByte
  refine .branch h ?_
  split
  case h_1 => exact .branch h.startFrame h
  case h_2 => exact .branch h.abortFrame (.branch h.abortFrame.startFrame (h.byteInFrame b))
  case h_3 => exact .branch h.abortFrame (h.byteAsBcc rules b)

theorem breakCharacter (h : u.Announced v) : u.Announced v.breakCharacter := .branch (h.setRx _) h

theorem srxByte (h : u.Announced v) (rules : Vector CodeRule 16) (b : Byte) (stopError : Bool) :
    u.Announced (v.srxByte rules b stopError) :=
  .branch h (.branch h.breakCharacter (.branch (h.setChecker _) (h.receiveByte rules b stopError)))

theorem frameCompletion (h : u.Announced v) (rules : Vector CodeRule 16) : u.Announced (v.frameCompletion rules) := by
  unfold LaneView.frameCompletion
  split
  · exact .branch (h.completeFrame _ _) h
  · exact h

theorem gapExpiry (h : u.Announced v) : u.Announced v.gapExpiry := .branch h.abortFrame h

theorem srxChange (h : u.Announced v) (level : LineLevel) : u.Announced (v.srxChange level) :=
  .branch (.branch (h.setPort _).abortFrame (h.setPort _)) h

theorem breakAtSpace (h : u.Announced v) : u.Announced v.breakAtSpace := (h.setPort _).handOver _ _

theorem breakAtMark (h : u.Announced v) : u.Announced v.breakAtMark :=
  .branch (.branch ((h.setPort _).handOver _ _) (((h.setPort _).handOver _ _).setPort _)) (h.setPort _)

theorem breakExpiry (h : u.Announced v) : u.Announced v.breakExpiry := by
  unfold LaneView.breakExpiry
  refine .branch ?_ h
  split
  · exact .branch h.breakAtSpace h.breakAtMark
  · exact h

theorem commandSent (h : u.Announced v) : u.Announced v.commandSent := .branch (h.setPort _) h

theorem requestTone (h : u.Announced v) (tone : Byte) : u.Announced (v.requestTone tone).1 := by
  unfold LaneView.requestTone
  split
  · exact h
  · exact .branchFst h (.branchFst (h.offerTone _) h)

/-! Settings and the other lane requests (chapter 10). -/

theorem windowStored (h : u.Announced v) : u.Announced v.windowStored := .branch (h.setFilter _) h

theorem inhibitStored (h : u.Announced v) (old : LaneSet) : u.Announced (v.inhibitStored old) :=
  .branch (h.setDrawerReason _) h

theorem modeStored (h : u.Announced v) (old : LaneSet) : u.Announced (v.modeStored old) := by
  unfold LaneView.modeStored
  split
  case h_1 => exact .branch h.startReport h
  case h_2 => exact h.setReport _
  all_goals exact h

theorem storeSet (h : u.Announced v) (new : LaneSet) : u.Announced (v.storeSet new) :=
  ((((h.setSet new).windowStored).inhibitStored _).modeStored _).evalFlow _

theorem whenOn {r : LaneView × Answer} (h : u.Announced v) (hr : u.Announced r.1) :
    u.Announced (Machine.whenOn v r).1 :=
  .branchFst hr h

theorem whenInactive {r : LaneView × Answer} (h : u.Announced v) (hr : u.Announced r.1) :
    u.Announced (Machine.whenInactive v r).1 :=
  .branchFst h hr

theorem serveLaneCfg (h : u.Announced v) (write : Byte) (f : LaneCfgFields) :
    u.Announced (v.serveLaneCfg write f).1 :=
  .branchFst h (.branchFst h (.branchFst (h.setCfg _) h))

theorem serveLaneSet (h : u.Announced v) (write : Byte) (f : LaneSetFields) :
    u.Announced (v.serveLaneSet write f).1 :=
  .branchFst h (.branchFst (h.evalFlow _) (.branchFst (h.storeSet _) h))

theorem servePower (h : u.Announced v) (value : Byte) : u.Announced (v.servePower value).1 :=
  .branchFst h (.branchFst h.powerOn h.powerOff)

theorem serveFlags (h : u.Announced v) (setList clearList : Byte) :
    u.Announced (v.serveFlags setList clearList).1 :=
  .branchFst (h.setDrawer _) h

theorem serveInhibit (h : u.Announced v) (value : Byte) : u.Announced (v.serveInhibit value).1 :=
  .branchFst h (.branchFst (h.whenOn (h.setReasons _)) (h.setReasons _))

theorem serveCounts (h : u.Announced v) (clear : Byte) : u.Announced (v.serveCounts clear).1 :=
  .branchFst (h.countsRequest _) h

theorem serveCheck (h : u.Announced v) (action duration : Byte) : u.Announced (v.serveCheck action duration).1 := by
  unfold LaneView.serveCheck
  refine h.whenOn ?_
  split
  · exact h.checkStart _
  · exact h.checkStop
  · exact h.checkInsert
  · exact h

end LaneView.Announced

/-! ### FETCH (R100, R152, R160) -/

/-- A FETCH deasserts ATTN when no record is left, so all it needs before is that a record that waits is announced. -/
theorem State.settleAttn_attnLaw (s : State) (h : s.waiting = true → s.attn = true) : s.settleAttn.AttnLaw := by
  have hwait : s.settleAttn.waiting = s.waiting := rfl
  rw [State.AttnLaw, State.settleAttn_attn, hwait]
  cases hw : s.waiting
  · exact Bool.and_false _
  · rw [h hw, Bool.and_self]

/-- The view with the first `n` records gone from its lane queue and their slots returned to the pool (R100). -/
def LaneView.withoutHead (v : LaneView) (n : Nat) : LaneView :=
  let removed := v.ln.queue.records.take n
  { v.setQueue
      { v.ln.queue with
        records := v.ln.queue.records.drop n
        held := v.ln.queue.held - slotCount removed } with
    free := v.free + slotCount removed }

theorem LaneView.removeRecords_eq (v : LaneView) (n : Nat) :
    v.removeRecords n = if v.ln.queue.records.take n = [] then v else (v.withoutHead n).evalFlow flowFuel := rfl

theorem LaneView.waiting_of_withoutHead (v : LaneView) (n : Nat) (h : (v.withoutHead n).waiting = true) :
    v.waiting = true := by
  rw [LaneView.waiting_iff] at h ⊢
  exact h.imp_right fun (hdrop : v.ln.queue.records.drop n ≠ []) hnil => hdrop (by rw [hnil, List.drop_nil])

/-- The records leave first, which adds no record and leaves ATTN; the evaluation of FLOW that follows may add one. -/
theorem LaneView.removeRecords_announced (v : LaneView) (n : Nat) :
    ∃ r : LaneView, r.attn = v.attn ∧ (r.waiting = true → v.waiting = true) ∧ r.Announced (v.removeRecords n) := by
  rw [v.removeRecords_eq]
  split
  · exact ⟨v, rfl, fun hr => hr, .refl⟩
  · exact ⟨v.withoutHead n, rfl, v.waiting_of_withoutHead n, .evalFlow .refl flowFuel⟩

namespace State.AttnLaw

variable {s : State}

/-- A record that waits after the removal waited before it, in this lane or another, or was added with ATTN. -/
theorem fetchFrom (h : s.AttnLaw) (l : LaneId) (n : Nat) : (s.fetchFrom l n).1.AttnLaw := by
  refine State.settleAttn_attnLaw _ fun hwait => ?_
  obtain ⟨r, hrattn, hrwait, added, hattn, hadded⟩ := (s.view l).removeRecords_announced n
  rw [State.onLane, State.put_waiting, hadded] at hwait
  rw [State.onLane, State.put_attn, hattn, hrattn, State.view_attn, h, s.view_waiting l]
  cases hr : r.waiting
  · rw [hr, Bool.false_or, Bool.or_eq_true] at hwait
    obtain ha | hb := hwait
    · rw [ha, Bool.or_true]
    · rw [hb, Bool.or_true, Bool.true_or]
  · rw [hrwait hr, Bool.true_or, Bool.true_or]

theorem fetchAlarms (h : s.AttnLaw) (n : Nat) : (s.fetchAlarms n).1.AttnLaw := by
  refine State.settleAttn_attnLaw _ fun hwait => h.trans ?_
  rw [State.waiting_iff] at hwait ⊢
  exact hwait.imp_left fun hdrop hnil => hdrop (by rw [hnil, List.drop_nil])

theorem fetchAny (h : s.AttnLaw) (n : Nat) : (s.fetchAny n).1.AttnLaw := by
  unfold State.fetchAny
  split
  · exact h.fetchAlarms n
  · split
    · next g l _ =>
      have hmoved : State.AttnLaw { s with pointers := s.pointers.set g l } := h
      exact hmoved.fetchFrom l n
    · exact h

/-! ### Events of one lane -/

/-- Both ways of a choice between states keep the law. -/
theorem branch {t : State} {c : Prop} [Decidable c] (h : s.AttnLaw) (k : t.AttnLaw) :
    State.AttnLaw (if c then s else t) := by
  split
  · exact h
  · exact k

theorem put (h : s.AttnLaw) {l : LaneId} {v : LaneView} (hv : (s.view l).Announced v) : (s.put l v).AttnLaw := by
  obtain ⟨added, hattn, hwait⟩ := hv
  rw [State.AttnLaw, State.put_attn, State.put_waiting, hattn, hwait, State.view_attn, h, s.view_waiting l,
    Bool.or_right_comm]

theorem onLane (h : s.AttnLaw) (l : LaneId) {f : LaneView → LaneView} (hf : ∀ v : LaneView, v.Announced (f v)) :
    (s.onLane l f).AttnLaw := h.put (hf _)

theorem laneEvent (h : s.AttnLaw) (l : LaneId) {f : LaneView → LaneView} (hf : ∀ v : LaneView, v.Announced (f v)) :
    (s.laneEvent l f).AttnLaw := h.branch (h.onLane l hf)

/-! ### Requests (R177) -/

theorem withLane (h : s.AttnLaw) (lane : Byte) {f : LaneId → State × Answer} (hf : ∀ l, (f l).1.AttnLaw) :
    (s.withLane lane f).1.AttnLaw := by
  unfold State.withLane
  split
  · exact hf _
  · exact h

theorem answerLane (h : s.AttnLaw) (lane : Byte) {f : LaneView → LaneView × Answer}
    (hf : ∀ v : LaneView, v.Announced (f v).1) : (s.answerLane lane f).1.AttnLaw :=
  h.withLane lane fun _ => h.put (hf _)

theorem serveStatus (h : s.AttnLaw) (lane : Byte) : (s.serveStatus lane).1.AttnLaw := by
  unfold State.serveStatus
  split
  · exact h
  · exact h.answerLane lane fun _ => .refl

theorem serveRule (h : s.AttnLaw) (index : Byte) (f : RuleFields) : (s.serveRule index f).1.AttnLaw := by
  unfold State.serveRule State.writeRule
  split
  · split <;> exact h
  · exact h

theorem serveRuleQ (h : s.AttnLaw) (index : Byte) : (s.serveRuleQ index).1.AttnLaw := by
  unfold State.serveRuleQ
  split <;> exact h

theorem serveFetch (h : s.AttnLaw) (lane maximum : Byte) : (s.serveFetch lane maximum).1.AttnLaw := by
  unfold State.serveFetch
  dsimp only
  split
  · exact h.fetchAny _
  · exact h.withLane lane fun l => h.fetchFrom l _

theorem serveUnlock (h : s.AttnLaw) : s.serveUnlock.1.AttnLaw := by
  unfold State.serveUnlock
  split <;> exact h

theorem serve (h : s.AttnLaw) (r : Request) : (s.serve r).1.AttnLaw := by
  cases r with
  | ident | restart => exact h
  | status lane => exact h.serveStatus lane
  | laneCfg lane write f => exact h.answerLane lane fun _ => .whenInactive .refl (.serveLaneCfg .refl write f)
  | laneSet lane write f => exact h.answerLane lane fun _ => .serveLaneSet .refl write f
  | keymap lane first count attr =>
    exact h.answerLane lane fun _ => .whenInactive .refl (.changeKeymap .refl first count attr)
  | rule index f => exact h.serveRule index f
  | ruleQ index => exact h.serveRuleQ index
  | power lane value => exact h.answerLane lane fun _ => .servePower .refl value
  | fetch lane maximum => exact h.serveFetch lane maximum
  | release lane => exact h.answerLane lane fun _ => .hostRelease .refl
  | flags lane setList clearList => exact h.answerLane lane fun _ => .serveFlags .refl setList clearList
  | inhibit lane value => exact h.answerLane lane fun _ => .serveInhibit .refl value
  | tone lane tone => exact h.answerLane lane fun _ => .whenOn .refl (.requestTone .refl tone)
  | counts lane clear => exact h.answerLane lane fun _ => .serveCounts .refl clear
  | check lane action duration => exact h.answerLane lane fun _ => .serveCheck .refl action duration
  | unlock => exact h.serveUnlock
  | clrFault lane => exact h.answerLane lane fun _ => .clearFault .refl

theorem serveParsed (h : s.AttnLaw) (parsed : Except ReplyCode Request) : (s.serveParsed parsed).1.AttnLaw := by
  cases parsed with
  | ok r => exact h.serve r
  | error code => exact h

theorem takeRequest (h : s.AttnLaw) (kind tag : Byte) (parsed : Except ReplyCode Request) :
    (s.takeRequest kind tag parsed).AttnLaw := by
  have hcounted : s.countLinkError.AttnLaw := h
  have hanswered (r : Reply) : ((s.serveParsed parsed).1.pushReply r).AttnLaw := h.serveParsed parsed
  exact h.branch (hcounted.branch (h.branch (hanswered _)))

theorem request (h : s.AttnLaw) (tag : Byte) (r : Request) : (s.request tag r).AttnLaw := h.takeRequest _ tag _

/-! ### The host link receiver (R175, R176) -/

theorem discardFrame (h : s.AttnLaw) : s.discardFrame.AttnLaw := h

theorem completeRequest (h : s.AttnLaw) : s.completeRequest.AttnLaw := by
  have hidle : (s.setHostRx .reset).AttnLaw := h
  unfold State.completeRequest
  split
  · exact hidle.takeRequest _ _ _
  · exact hidle

theorem hostByte (h : s.AttnLaw) (b : Byte) : (s.hostByte b).AttnLaw := by
  unfold State.hostByte
  dsimp only
  split
  case h_1 => split <;> exact h
  case h_3 =>
    split
    · exact h
    · exact h.discardFrame
  case h_6 =>
    split
    · exact h.completeRequest
    · exact h.discardFrame
  all_goals exact h

/-! ### Lockdown and device reset (R127, R188) -/

/-- ATTN may stand either way before: the LOCKDOWN alarm asserts it. -/
theorem lockdownEvent (s : State) : s.lockdownEvent.AttnLaw := by
  have hlanes (ls : List LaneId) (t : State) (ht : t.AttnLaw) :
      (ls.foldl (fun t l => t.onLane l LaneView.lockdownCut) t).AttnLaw := by
    induction ls generalizing t with
    | nil => exact ht
    | cons l ls ih => exact ih _ (ht.onLane l fun _ => .lockdownCut .refl)
  exact hlanes _ _ (((State.waiting_iff _).mpr (.inl (raiseAlarm_ne_nil _ _ _ _))).symm)

theorem deviceReset (s : State) : s.deviceReset.AttnLaw := by
  have hwait : ¬s.deviceReset.waiting = true := by
    rw [State.waiting_iff]
    rintro (h | ⟨k, hk⟩)
    · exact h rfl
    · have hreset : s.deviceReset.lanes[k] = s.lanes[k].deviceReset := by simp [State.deviceReset]
      rw [hreset] at hk
      cases hk
  exact (Bool.of_not_eq_true hwait).symm

theorem endReset (h : s.AttnLaw) : s.endReset.AttnLaw := branch (lockdownEvent _) h

/-! ### Every command -/

/-- The 26 requests share the way a request is taken, the events of a lane the rule for one; the rest are the host link,
device reset and LKD. -/
theorem exec (h : s.AttnLaw) (c : Instr) : ∃ t, Machine.exec c s = .next t ∧ t.AttnLaw := by
  cases c with
  | ident | statusLane | statusDevice | laneCfgRead | laneCfgWrite | laneSetRead | laneSetWrite | keymap | rule | ruleQ
  | powerOn | powerOff | fetchAny | fetchLane | release | flags | inhibitOn | inhibitOff | tone | counts | checkStart
  | checkStop | checkInsert | unlock | clrFault | restart => exact ⟨_, rfl, h.request _ _⟩
  | hostByteArrival byte stopError => exact ⟨_, rfl, h.branch (branch (h.branch h.discardFrame) (h.hostByte byte))⟩
  | hostGapExpiry => exact ⟨_, rfl, h.discardFrame.branch h⟩
  | replySent => exact ⟨_, rfl, h.branch h⟩
  | powerOnReset | rstAssert => exact ⟨_, rfl, deviceReset s⟩
  | restartReset =>
    have hreset : State.AttnLaw { s.deviceReset with resetSource := .restart } := deviceReset s
    exact ⟨_, rfl, hreset.endReset.branch h⟩
  | powerOnResetEnd rate1 rate0 =>
    have hsampled : (State.sampleStraps { s with porHold := false } rate1 rate0).AttnLaw := h
    exact ⟨_, rfl, h.branch (hsampled.branch hsampled.endReset)⟩
  | rstRelease rate1 rate0 =>
    have hsampled : (State.sampleStraps { s with rstAsserted := false } rate1 rate0).AttnLaw := h
    exact ⟨_, rfl, h.branch (hsampled.branch hsampled.endReset)⟩
  | lkdAssert =>
    have hpin : State.AttnLaw { s with lkdPin := true } := h
    exact ⟨_, rfl, hpin.branch (lockdownEvent _)⟩
  | lkdDeassert =>
    have hpin : State.AttnLaw { s with lkdPin := false } := h
    have hlevel : State.AttnLaw { s with lkdPin := false, lkdLevel := false } := h
    exact ⟨_, rfl, hpin.branch hlevel⟩
  | pflAssert lane =>
    exact ⟨_, rfl, (h.onLane lane fun _ => .setPins .refl _).laneEvent lane fun _ => .pflTrip .refl⟩
  | pflDeassert lane => exact ⟨_, rfl, h.onLane lane fun _ => .setPins .refl _⟩
  | srxLevelChange lane level =>
    have hpin := h.onLane lane (f := fun v => v.setPins { v.ln.pins with srx := level }) fun _ => .setPins .refl _
    exact ⟨_, rfl, h.branch (hpin.laneEvent lane fun _ => .srxChange .refl level)⟩
  | dsnChange lane level =>
    have hpin := h.onLane lane (f := fun v => v.setPins { v.ln.pins with dsn := level }) fun _ => .setPins .refl _
    exact ⟨_, rfl, h.branch (hpin.laneEvent lane fun _ => .dsnChange .refl level)⟩
  | settleExpiry lane => exact ⟨_, rfl, h.laneEvent lane fun _ => .settleExpiry .refl⟩
  | sampleArrival lane raw => exact ⟨_, rfl, h.laneEvent lane fun _ => .sampleArrival .refl raw⟩
  | typematicExpiry lane => exact ⟨_, rfl, h.laneEvent lane fun _ => .typematicExpiry .refl⟩
  | scannerByteArrival lane byte stopError | checkByteArrival lane byte stopError =>
    exact ⟨_, rfl, h.laneEvent lane fun _ => .srxByte .refl s.rules byte stopError⟩
  | frameCompletion lane => exact ⟨_, rfl, h.laneEvent lane fun _ => .frameCompletion .refl s.rules⟩
  | scannerGapExpiry lane => exact ⟨_, rfl, h.laneEvent lane fun _ => .gapExpiry .refl⟩
  | breakCharacter lane => exact ⟨_, rfl, h.laneEvent lane fun _ => .breakCharacter .refl⟩
  | breakTimerExpiry lane => exact ⟨_, rfl, h.laneEvent lane fun _ => .breakExpiry .refl⟩
  | commandSent lane => exact ⟨_, rfl, h.laneEvent lane fun _ => .commandSent .refl⟩
  | senseStabilityExpiry lane => exact ⟨_, rfl, h.laneEvent lane fun _ => .stabilityExpiry .refl⟩
  | pulseExpiry lane => exact ⟨_, rfl, h.laneEvent lane fun _ => .pulseExpiry .refl⟩
  | docAssert lane => exact ⟨_, rfl, h.laneEvent lane fun _ => .docAssert .refl⟩
  | confirmExpiry lane => exact ⟨_, rfl, h.laneEvent lane fun _ => .confirmExpiry .refl⟩
  | openLongExpiry lane => exact ⟨_, rfl, h.laneEvent lane fun _ => .openLongExpiry .refl⟩
  | reportTimerExpiry lane => exact ⟨_, rfl, h.laneEvent lane fun _ => .reportExpiry .refl⟩
  | duplicateWindowExpiry lane => exact ⟨_, rfl, h.laneEvent lane fun _ => .windowExpiry .refl⟩
  | checkByteSent lane => exact ⟨_, rfl, h.laneEvent lane fun _ => .checkByteSent .refl⟩
  | checkTimerExpiry lane => exact ⟨_, rfl, h.laneEvent lane fun _ => .checkTimerExpiry .refl⟩

theorem tick (h : s.AttnLaw) : s.tick.AttnLaw := h.branch h

end State.AttnLaw

/-- Settles O53, by whether a command waits. -/
theorem attnFollowsTheWaitingRecords : Obligations.AttnFollowsTheWaitingRecords := by
  unfold Obligations.AttnFollowsTheWaitingRecords
  intro s t h hstep
  cases hp : s.pending with
  | nil =>
    rw [step_nil s hp] at hstep
    cases hstep
    exact h.tick
  | cons c rest =>
    have hrest : (s.withRest rest).AttnLaw := h
    obtain ⟨u, hexec, hu⟩ := hrest.exec c
    rw [step_cons s c rest hp, hexec] at hstep
    cases hstep
    exact hu

end Sys2Proof.Machine
end

section
/-!
PROOFS. The host link (chapter 10): what STATUS reports (R183, R184), with the layout of sets and conditions (R190).
-/

namespace Sys2Proof.Machine

/-! ### Bytes of the layouts (R190) -/

/-- The number of a set before it is cut to a byte. -/
def setNumber (members : List Bool) : Nat := (members.zipIdx.map fun m => if m.1 then 2 ^ m.2 else 0).sum

theorem setByte_eq (members : List Bool) : setByte members = byteOf (setNumber members) := rfl

/-- A first member moves the bits of the others up by one. -/
theorem setNumber_cons (b : Bool) (members : List Bool) :
    setNumber (b :: members) = Nat.bit b (setNumber members) := by
  have hmoved : ((members.zipIdx 1).map fun m => if m.1 then 2 ^ m.2 else 0).sum = 2 * setNumber members := by
    rw [setNumber, List.zipIdx_succ (i := 0), List.map_map, ← List.sum_map_mul_left]
    simp [Function.comp_def, pow_succ', mul_ite]
  cases b <;> simp [setNumber, hmoved, Nat.bit_val, Nat.add_comm]

theorem setNumber_testBit (members : List Bool) (i : Nat) :
    (setNumber members).testBit i = members.getD i false := by
  induction members generalizing i with
  | nil => simp [setNumber]
  | cons b members ih =>
    rw [setNumber_cons]
    cases i with
    | zero => rw [Nat.testBit_bit_zero, List.getD_cons_zero]
    | succ i => rw [Nat.testBit_bit_succ, List.getD_cons_succ, ih]

theorem setByte_getLsbD (members : List Bool) {i : Nat} (hi : i < 8) :
    (setByte members).getLsbD i = members.getD i false := by
  rw [setByte_eq, byteOf, BitVec.getLsbD_ofNat, setNumber_testBit, decide_eq_true hi, Bool.true_and]

/-- The monitor holds the live states in condition order. -/
theorem Lane.live_toList (d : Lane) :
    d.live.toList =
      [.scannerAbsent, .scannerHeld, .ghost, .rollover, .keylockFault, .drawerLong, .driverFault, .counterFull].map
        d.liveOf := by
  calc d.live.toList
    _ = List.ofFn fun i : Fin 8 => d.live[i] := by
      rw [← Vector.toList_ofFn]
      exact congrArg Vector.toList (Vector.ext fun i hi => by simp)
    _ = _ := by simp [List.ofFn_succ, Lane.liveOf, Condition.idx]

/-! ### STATUS once taken -/

theorem State.serveStatus_lane (s : State) {lane : Byte} {l : LaneId} (hl : lane.toNat = l.val) :
    s.serveStatus lane = (s, { code := .done, body := s.lanes[l].statusBytes }) := by
  rw [State.serveStatus, if_neg (lane_byte_ne_any lane l hl), s.answerLane_lane lane l _ hl, s.put_view]
  rfl

theorem State.serveStatus_none (s : State) {lane : Byte} (hlane : 8 ≤ lane.toNat) (hany : lane ≠ anyLaneByte) :
    s.serveStatus lane = (s, .only .badLane) := by
  rw [State.serveStatus, if_neg hany, s.answerLane_none lane _ hlane]

theorem State.serveStatus_device (s : State) :
    s.serveStatus anyLaneByte = (s, { code := .done, body := s.statusBytes }) := if_pos rfl

/-- Both forms of STATUS are one request, the lane byte telling them apart. -/
theorem State.request_status (s : State) (tag lane : Byte) (hs : s.ready) :
    s.request tag (.status lane) =
      (s.serveStatus lane).1.answered 0x82 tag (s.serveStatus lane).2.code (s.serveStatus lane).2.body := by
  have hkind : RequestKind.status.byte ≠ 0x0A#8 := by decide
  rw [s.request_ready tag _ hs]
  exact State.pushReply_answer _ _ tag _ hkind

theorem exec_statusLane (s : State) (tag lane : Byte) :
    exec (.statusLane tag lane) s = .next (s.request tag (.status lane)) := rfl

theorem exec_statusDevice (s : State) (tag : Byte) :
    exec (.statusDevice tag) s = .next (s.request tag (.status anyLaneByte)) := rfl

/-- Settles O5: the three ways the lane byte of a STATUS is taken, then the bytes of its fields. -/
theorem statusReportsTheState : Obligations.StatusReportsTheState := by
  unfold Obligations.StatusReportsTheState
  refine ⟨fun s tag lane l hs hl => ?lane, fun s tag lane hs hlane hany => ?none, fun s tag hs => ?device,
    fun members i hi => setByte_getLsbD members hi, by decide, by decide, by decide⟩
  case lane =>
    rw [exec_statusLane, s.request_status tag lane hs, s.serveStatus_lane hl, Lane.statusBytes, liveByte,
      Lane.live_toList, downListBytes, ← List.append_assoc]
    cases s.lanes[l].power.progress with
    | none => rfl
    | some m => rfl
  case none => rw [exec_statusLane, s.request_status tag lane hs, s.serveStatus_none hlane hany, Answer.only]
  case device =>
    rw [exec_statusDevice, s.request_status tag _ hs, s.serveStatus_device]
    rfl

end Sys2Proof.Machine
end

section
/-!
PROOFS. What an event of one lane is made of: every operation on a view is a chain of the moves below, and a law that each
move keeps is kept by every event. The moves of the power controller, the static settings, the keymap, the key matrix
scanner and the drawer are named in the parts a chain may touch, so a chain also says which of these it leaves alone.
-/

namespace Sys2Proof.Machine

/-! ### Moves of a view -/

/-- The parts of a lane whose laws read more than the part itself. -/
inductive LanePart where
  | power
  | cfg
  | keymap
  | keys
  | drawer

/-- The scanner command queue holds at most 4 entries, at most one of them an 'E' or 'D' that waits (R53, R55). -/
def ScannerPort.Queued (p : ScannerPort) : Prop :=
  p.cmds.length ≤ 4 ∧ (p.cmds.tail.filter fun c => !c.isTone).length ≤ 1

/-- No counter is above 65535 (R139). -/
def Counters.Bounded (c : Counters) : Prop :=
  c.good ≤ 65535 ∧ c.checkFail ≤ 65535 ∧ c.rejected ≤ 65535 ∧ c.duplicate ≤ 65535 ∧ c.overrun ≤ 65535 ∧
    c.frameErr ≤ 65535

/-- The view is reached from `u` by moves that touch, of the parts named in `LanePart`, those of `T` alone. A SCAN record may
be taken when it is sound for a part whose rules are valid and whose receive assembly was in order at `u`. -/
inductive LaneView.Moves (rules : Vector CodeRule 16) (T : LanePart → Prop) (u : LaneView) : LaneView → Prop
  | refl : Moves rules T u u
  | setPower {v : LaneView} (h : Moves rules T u v) (hT : T .power) (x : PowerCtl) : Moves rules T u (v.setPower x)
  | setCfg {v : LaneView} (h : Moves rules T u v) (hT : T .cfg) (x : LaneCfg) (hx : x.InRange) :
      Moves rules T u (v.setCfg x)
  | setKeymap {v : LaneView} (h : Moves rules T u v) (hT : T .keymap) (x : Vector KeyAttr 128) :
      Moves rules T u (v.setKeymap x)
  | setKeys {v : LaneView} (h : Moves rules T u v) (hT : T .keys) (x : KeyScanner) : Moves rules T u (v.setKeys x)
  | setDrawer {v : LaneView} (h : Moves rules T u v) (hT : T .drawer) (x : Drawer) : Moves rules T u (v.setDrawer x)
  | setSet {v : LaneView} (h : Moves rules T u v) (x : LaneSet) (hx : x.InRange) : Moves rules T u (v.setSet x)
  | setPort {v : LaneView} (h : Moves rules T u v) (x : ScannerPort) (hcmds : v.ln.port.Queued → x.Queued)
      (hrx : v.ln.port.rx.Law → x.rx.Law) : Moves rules T u (v.setPort x)
  | setFilter {v : LaneView} (h : Moves rules T u v) (x : DupFilter) : Moves rules T u (v.setFilter x)
  | setLives {v : LaneView} (h : Moves rules T u v) (x : Vector Bool 8) : Moves rules T u (v.setLives x)
  | setReport {v : LaneView} (h : Moves rules T u v) (x : Option Time) : Moves rules T u (v.setReport x)
  | setChecker {v : LaneView} (h : Moves rules T u v) (x : LineChecker) : Moves rules T u (v.setChecker x)
  | setPins {v : LaneView} (h : Moves rules T u v) (x : LanePins) : Moves rules T u (v.setPins x)
  | setCounters {v : LaneView} (h : Moves rules T u v) (x : Counters) (hx : v.ln.counters.Bounded → x.Bounded) :
      Moves rules T u (v.setCounters x)
  | enqueue {v : LaneView} (h : Moves rules T u v) (b : RecordBody) (ht : v.takes b = true)
      (hb : (∀ i : RuleIdx, rules[i].Valid) → u.ln.port.rx.Law → b.sound) : Moves rules T u (v.enqueue b)
  | refuse {v : LaneView} (h : Moves rules T u v) (b : RecordBody) : Moves rules T u (v.refuse b)
  | alarm {v : LaneView} (h : Moves rules T u v) (kind : AlarmKind) (hk : kind ≠ .lockdown) :
      Moves rules T u (v.alarm kind)
  | withoutHead {v : LaneView} (h : Moves rules T u v) (n : Nat) : Moves rules T u (v.withoutHead n)

/-- A refused record changes the loss count at most. -/
theorem LaneView.refuse_eq (v : LaneView) (b : RecordBody) :
    v.refuse b =
      v.setQueue { v.ln.queue with loss := if b.classA then v.ln.queue.loss else bump8 v.ln.queue.loss } := by
  unfold LaneView.refuse
  split <;> rfl

theorem bump8_le {n : Nat} (h : n ≤ 255) : bump8 n ≤ 255 := by
  unfold bump8
  split <;> omega

theorem bump16_le {n : Nat} (h : n ≤ 65535) : bump16 n ≤ 65535 := by
  unfold bump16
  split <;> omega

theorem Counters.Bounded.raise {c : Counters} (h : c.Bounded) (name : CounterName) : (c.raise name).Bounded := by
  obtain ⟨h1, h2, h3, h4, h5, h6⟩ := h
  cases name with
  | good => exact ⟨bump16_le h1, h2, h3, h4, h5, h6⟩
  | checkFail => exact ⟨h1, bump16_le h2, h3, h4, h5, h6⟩
  | rejected => exact ⟨h1, h2, bump16_le h3, h4, h5, h6⟩
  | duplicate => exact ⟨h1, h2, h3, bump16_le h4, h5, h6⟩
  | overrun => exact ⟨h1, h2, h3, h4, bump16_le h5, h6⟩
  | frameErr => exact ⟨h1, h2, h3, h4, h5, bump16_le h6⟩

theorem Counters.zero_bounded : Counters.zero.Bounded := by
  unfold Counters.Bounded
  decide

theorem slotCount_append (xs ys : List LaneRecord) : slotCount (xs ++ ys) = slotCount xs + slotCount ys := by
  simp [slotCount]

/-- Records taken off a list and those left make the whole. -/
theorem slotCount_take_drop (xs : List LaneRecord) (n : Nat) :
    slotCount (xs.take n) + slotCount (xs.drop n) = slotCount xs := by
  rw [← slotCount_append, List.take_append_drop]

/-- A record is taken with a code only where the pool has its slot (R92). -/
theorem LaneView.slots_le_free {v : LaneView} {b : RecordBody} (h : v.takes b = true) : b.slots ≤ v.free := by
  have hs : b.slots ≤ 1 := by cases b <;> simp [RecordBody.slots]
  unfold LaneView.takes at h
  split at h
  · simp only [Bool.and_eq_true, Bool.or_eq_true, decide_eq_true_eq] at h
    omega
  · next ha => rw [RecordBody.slots_classB b (by simpa using ha)]; exact Nat.zero_le _

theorem LaneView.count_lt_of_takes {v : LaneView} {b : RecordBody} (h : v.takes b = true) :
    v.ln.queue.records.length < 32 ∧ (b.classA = true → v.ln.queue.records.length < 28) := by
  unfold LaneView.takes at h
  split at h
  · simp only [Bool.and_eq_true, decide_eq_true_eq] at h
    obtain ⟨hc, -⟩ := h
    have hc28 : v.ln.queue.records.length < 28 := hc
    omega
  · next ha =>
    have hc : v.ln.queue.records.length < 32 := of_decide_eq_true h
    exact ⟨hc, fun e => absurd e ha⟩

/-- The law of a lane queue, one record at a time. -/
theorem Lane.queueLaw_iff (d : Lane) (l : LaneId) :
    d.QueueLaw l ↔
      d.queue.records.length ≤ 32 ∧ d.queue.loss ≤ 255 ∧
        ∀ (i : Nat) (r : LaneRecord), d.queue.records[i]? = some r →
          (r.body.classA = true → i < 28) ∧
            r.seq + BitVec.ofNat 16 (d.queue.records.length - i) = d.queue.seq ∧ r.lane = l ∧ r.lost ≤ 255 := by
  constructor
  · rintro ⟨hlen, hclass, hseq, hrec, hloss⟩
    refine ⟨hlen, hloss, fun i r hr => ?_⟩
    obtain ⟨hi, rfl⟩ := List.getElem?_eq_some_iff.mp hr
    exact ⟨hclass ⟨i, hi⟩, hseq ⟨i, hi⟩, hrec _ (List.getElem_mem hi)⟩
  · rintro ⟨hlen, hloss, hall⟩
    have hat (i : Fin d.queue.records.length) := hall i.val d.queue.records[i] (List.getElem?_eq_getElem i.isLt)
    refine ⟨hlen, fun i => (hat i).1, fun i => (hat i).2.1, fun r hr => ?_, hloss⟩
    obtain ⟨i, hi, rfl⟩ := List.getElem_of_mem hr
    exact (hat ⟨i, hi⟩).2.2

/-- A record taken keeps the law: it stands last, with the sequence number the lane had (R89, R91, R93). -/
theorem Lane.QueueLaw.enqueue {v : LaneView} (h : v.ln.QueueLaw v.id) {b : RecordBody} (ht : v.takes b = true) :
    (v.enqueue b).ln.QueueLaw v.id := by
  obtain ⟨hlen, hclassA⟩ := LaneView.count_lt_of_takes ht
  rw [Lane.queueLaw_iff] at h ⊢
  obtain ⟨-, hloss, hall⟩ := h
  have hrecords : (v.enqueue b).ln.queue.records = v.ln.queue.records ++ [v.record b] := rfl
  have hseq : (v.enqueue b).ln.queue.seq = v.ln.queue.seq + 1 := rfl
  have hlost : (v.enqueue b).ln.queue.loss = 0 := rfl
  rw [hrecords, hseq, hlost, List.length_append, List.length_singleton]
  refine ⟨by omega, by omega, fun i r hr => ?_⟩
  by_cases hi : i < v.ln.queue.records.length
  · rw [List.getElem?_append_left hi] at hr
    obtain ⟨hclass, hs, hl, hr255⟩ := hall i r hr
    refine ⟨hclass, ?_, hl, hr255⟩
    rw [← hs, show v.ln.queue.records.length + 1 - i = v.ln.queue.records.length - i + 1 by omega, BitVec.ofNat_add,
      BitVec.add_assoc]
    rfl
  · rw [List.getElem?_append_right (Nat.not_lt.mp hi), List.getElem?_singleton] at hr
    split at hr
    · cases hr
      refine ⟨fun e => ?_, ?_, rfl, hloss⟩
      · have := hclassA e
        omega
      · rw [show v.ln.queue.records.length + 1 - i = 1 by omega]
        rfl
    · cases hr

/-- Records that leave from the head keep the law. -/
theorem Lane.QueueLaw.withoutHead {v : LaneView} {l : LaneId} (h : v.ln.QueueLaw l) (n : Nat) :
    (v.withoutHead n).ln.QueueLaw l := by
  rw [Lane.queueLaw_iff] at h ⊢
  obtain ⟨hlen, hloss, hall⟩ := h
  have hrecords : (v.withoutHead n).ln.queue.records = v.ln.queue.records.drop n := rfl
  have hseq : (v.withoutHead n).ln.queue.seq = v.ln.queue.seq := rfl
  have hlost : (v.withoutHead n).ln.queue.loss = v.ln.queue.loss := rfl
  rw [hrecords, hseq, hlost, List.length_drop]
  refine ⟨by omega, hloss, fun i r hr => ?_⟩
  rw [List.getElem?_drop] at hr
  obtain ⟨hclass, hs, hl⟩ := hall (n + i) r hr
  refine ⟨fun e => ?_, ?_, hl⟩
  · have := hclass e
    omega
  · rw [Nat.sub_sub]
    exact hs

/-- The law of the alarm queue, which is about the queue alone (R148, R149). -/
def AlarmsMerged (alarms : List Alarm) : Prop :=
  (alarms.map fun a => (a.kind, a.lane)).Nodup ∧ (∀ a ∈ alarms, a.wellFormed) ∧ alarms.length ≤ 25

/-- The kinds and lanes an alarm can have: LOCKDOWN of the device, and three kinds of each lane (R148). -/
def alarmKeys : List (AlarmKind × Option LaneId) :=
  (.lockdown, none) ::
    [AlarmKind.forcedOpen, .driverFault, .powerTrip].flatMap fun k => (List.finRange 8).map fun l => (k, some l)

theorem mem_alarmKeys {kind : AlarmKind} {lane : Option LaneId} (h : lane = none ↔ kind = .lockdown) :
    (kind, lane) ∈ alarmKeys := by
  cases lane with
  | none => rw [h.mp rfl]; exact List.mem_cons_self
  | some l =>
    have hne : kind ≠ .lockdown := fun e => by cases h.mpr e
    refine List.mem_cons_of_mem _ (List.mem_flatMap.mpr ⟨kind, ?_, List.mem_map.mpr ⟨l, List.mem_finRange l, rfl⟩⟩)
    cases kind <;> simp_all

/-- Records of different kinds or lanes are at most as many as there are kinds and lanes. -/
theorem alarms_length_le {alarms : List Alarm} (hnodup : (alarms.map fun a => (a.kind, a.lane)).Nodup)
    (hform : ∀ a ∈ alarms, a.wellFormed) : alarms.length ≤ 25 := by
  have hsub : (alarms.map fun a => (a.kind, a.lane)) ⊆ alarmKeys := by
    intro k hk
    obtain ⟨a, ha, rfl⟩ := List.mem_map.mp hk
    exact mem_alarmKeys (hform a ha).1
  have hle := (hnodup.subperm hsub).length_le
  rwa [List.length_map] at hle

/-- Raising an alarm touches the record it merges into, or adds one. -/
theorem raiseAlarm_wellFormed {now : Time} {kind : AlarmKind} {lane : Option LaneId}
    (hkey : lane = none ↔ kind = .lockdown) {alarms : List Alarm} (h : ∀ a ∈ alarms, a.wellFormed) :
    ∀ a ∈ raiseAlarm now kind lane alarms, a.wellFormed := by
  induction alarms with
  | nil =>
    intro a ha
    rw [List.mem_singleton.mp ha]
    exact ⟨hkey, Nat.le_refl 1, show 1 ≤ 255 by decide⟩
  | cons x rest ih =>
    obtain ⟨⟨hx, hlow, hhigh⟩, hrest⟩ := List.forall_mem_cons.mp h
    unfold raiseAlarm
    split
    · refine List.forall_mem_cons.mpr ⟨⟨hx, ?_, bump8_le hhigh⟩, hrest⟩
      show 1 ≤ bump8 x.repeats
      unfold bump8
      split <;> omega
    · exact List.forall_mem_cons.mpr ⟨⟨hx, hlow, hhigh⟩, ih hrest⟩

theorem AlarmsMerged.raise {alarms : List Alarm} (h : AlarmsMerged alarms) (now : Time) {kind : AlarmKind}
    {lane : Option LaneId} (hkey : lane = none ↔ kind = .lockdown) :
    AlarmsMerged (raiseAlarm now kind lane alarms) := by
  obtain ⟨hnodup, hform, -⟩ := h
  have hform' := raiseAlarm_wellFormed (now := now) hkey hform
  have hnodup' : ((raiseAlarm now kind lane alarms).map fun a => (a.kind, a.lane)).Nodup := by
    rw [raiseAlarm_keys]
    split
    · exact hnodup
    · next hnew => exact List.nodup_append.mpr ⟨hnodup, by simp, by
        intro a ha b hb e
        rw [List.mem_singleton.mp hb] at e
        exact hnew (e ▸ ha)⟩
  exact ⟨hnodup', hform', alarms_length_le hnodup' hform'⟩

theorem AlarmsMerged.drop {alarms : List Alarm} (h : AlarmsMerged alarms) (n : Nat) : AlarmsMerged (alarms.drop n) := by
  obtain ⟨hnodup, hform, hlen⟩ := h
  refine ⟨?_, fun a ha => hform a (List.mem_of_mem_drop ha), ?_⟩
  · rw [List.map_drop]
    exact hnodup.sublist (List.drop_sublist _ _)
  · rw [List.length_drop]
    omega

/-! ### What the moves keep -/

/-- The pool's free count and the slots of the lane's records together. -/
def LaneView.slotTotal (v : LaneView) : Nat := v.free + slotCount v.ln.queue.records

/-- The lane's held slot count is the number of its SCAN and REJECT records (R97). -/
def LaneView.HeldCounted (v : LaneView) : Prop := v.ln.queue.held = slotCount v.ln.queue.records

namespace LaneView.Moves

variable {rules : Vector CodeRule 16} {T : LanePart → Prop} {u v : LaneView}


theorem outside_eq (h : u.Moves rules T v) : v.id = u.id ∧ v.now = u.now ∧ v.lockdown = u.lockdown := by
  induction h with
  | refl => exact ⟨rfl, rfl, rfl⟩
  | refuse h b ih => rw [LaneView.refuse_eq]; exact ih
  | _ => assumption

theorem power_eq (h : u.Moves rules T v) (hT : ¬T .power) : v.ln.power = u.ln.power := by
  induction h with
  | refl => rfl
  | setPower h ht x ih => exact absurd ht hT
  | refuse h b ih => rw [LaneView.refuse_eq]; exact ih
  | _ => assumption

theorem cfg_eq (h : u.Moves rules T v) (hT : ¬T .cfg) : v.ln.cfg = u.ln.cfg := by
  induction h with
  | refl => rfl
  | setCfg h ht x ih => exact absurd ht hT
  | refuse h b ih => rw [LaneView.refuse_eq]; exact ih
  | _ => assumption

theorem keymap_eq (h : u.Moves rules T v) (hT : ¬T .keymap) : v.ln.keymap = u.ln.keymap := by
  induction h with
  | refl => rfl
  | setKeymap h ht x ih => exact absurd ht hT
  | refuse h b ih => rw [LaneView.refuse_eq]; exact ih
  | _ => assumption

theorem keys_eq (h : u.Moves rules T v) (hT : ¬T .keys) : v.ln.keys = u.ln.keys := by
  induction h with
  | refl => rfl
  | setKeys h ht x ih => exact absurd ht hT
  | refuse h b ih => rw [LaneView.refuse_eq]; exact ih
  | _ => assumption

theorem drawer_eq (h : u.Moves rules T v) (hT : ¬T .drawer) : v.ln.drawer = u.ln.drawer := by
  induction h with
  | refl => rfl
  | setDrawer h ht x ih => exact absurd ht hT
  | refuse h b ih => rw [LaneView.refuse_eq]; exact ih
  | _ => assumption

theorem cfg_inRange (h : u.Moves rules T v) (hu : u.ln.cfg.InRange) : v.ln.cfg.InRange := by
  induction h with
  | refl => exact hu
  | setCfg h ht x hx ih => exact hx
  | refuse h b ih => rw [LaneView.refuse_eq]; exact ih
  | _ => assumption

theorem set_inRange (h : u.Moves rules T v) (hu : u.ln.set.InRange) : v.ln.set.InRange := by
  induction h with
  | refl => exact hu
  | setSet h x hx ih => exact hx
  | refuse h b ih => rw [LaneView.refuse_eq]; exact ih
  | _ => assumption

theorem counters_bounded (h : u.Moves rules T v) (hu : u.ln.counters.Bounded) : v.ln.counters.Bounded := by
  induction h with
  | refl => exact hu
  | setCounters h x hx ih => exact hx ih
  | refuse h b ih => rw [LaneView.refuse_eq]; exact ih
  | _ => assumption

theorem port_queued (h : u.Moves rules T v) (hu : u.ln.port.Queued) : v.ln.port.Queued := by
  induction h with
  | refl => exact hu
  | setPort h x hcmds hrx ih => exact hcmds ih
  | refuse h b ih => rw [LaneView.refuse_eq]; exact ih
  | _ => assumption

theorem rx_law (h : u.Moves rules T v) (hu : u.ln.port.rx.Law) : v.ln.port.rx.Law := by
  induction h with
  | refl => exact hu
  | setPort h x hcmds hrx ih => exact hrx ih
  | refuse h b ih => rw [LaneView.refuse_eq]; exact ih
  | _ => assumption

/-- Records join the queue sound, and leave it. -/
theorem records_sound (h : u.Moves rules T v) (hrules : ∀ i : RuleIdx, rules[i].Valid) (hrx : u.ln.port.rx.Law)
    (hu : ∀ r ∈ u.ln.queue.records, r.body.sound) : ∀ r ∈ v.ln.queue.records, r.body.sound := by
  induction h with
  | refl => exact hu
  | @enqueue v h b ht hb ih =>
    intro r hr
    obtain hr | hr := List.mem_append.mp (show r ∈ v.ln.queue.records ++ [v.record b] from hr)
    · exact ih r hr
    · rw [List.mem_singleton.mp hr]
      exact hb hrules hrx
  | refuse h b ih => rw [LaneView.refuse_eq]; exact ih
  | withoutHead h n ih => exact fun r hr => ih r (List.mem_of_mem_drop hr)
  | _ => assumption

/-- Slots move between the pool and the lane, one with each SCAN and REJECT record (R93, R97, R100). -/
theorem slots_kept (h : u.Moves rules T v) (hu : u.HeldCounted) : v.HeldCounted ∧ v.slotTotal = u.slotTotal := by
  induction h with
  | refl => exact ⟨hu, rfl⟩
  | @enqueue v h b ht hb ih =>
    obtain ⟨hheld, htotal⟩ := ih
    have hfree := LaneView.slots_le_free ht
    have hcount : slotCount (v.enqueue b).ln.queue.records = slotCount v.ln.queue.records + b.slots := by
      rw [show (v.enqueue b).ln.queue.records = v.ln.queue.records ++ [v.record b] from rfl, slotCount_append]
      rfl
    refine ⟨?_, ?_⟩
    · rw [LaneView.HeldCounted, hcount, ← hheld]
      rfl
    · rw [LaneView.slotTotal, hcount, ← htotal, LaneView.slotTotal, show (v.enqueue b).free = v.free - b.slots from rfl]
      omega
  | refuse h b ih => rw [LaneView.refuse_eq]; exact ih
  | @withoutHead v h n ih =>
    obtain ⟨hheld, htotal⟩ := ih
    have hsplit := slotCount_take_drop v.ln.queue.records n
    refine ⟨?_, ?_⟩
    · have hleft : v.ln.queue.held - slotCount (v.ln.queue.records.take n) = slotCount (v.ln.queue.records.drop n) := by
        rw [hheld]
        omega
      exact hleft
    · have hback : v.free + slotCount (v.ln.queue.records.take n) + slotCount (v.ln.queue.records.drop n) =
          v.free + slotCount v.ln.queue.records := by omega
      exact hback.trans htotal
  | _ => assumption

theorem queueLaw (h : u.Moves rules T v) (hu : u.ln.QueueLaw u.id) : v.ln.QueueLaw v.id := by
  induction h with
  | refl => exact hu
  | enqueue h b ht hb ih => exact Lane.QueueLaw.enqueue ih ht
  | @refuse v h b ih =>
    rw [LaneView.refuse_eq]
    obtain ⟨hlen, hclass, hseq, hrec, hloss⟩ := ih
    refine ⟨hlen, hclass, hseq, hrec, ?_⟩
    have hle := bump8_le hloss
    dsimp only [LaneView.setQueue]
    split <;> assumption
  | withoutHead h n ih => exact Lane.QueueLaw.withoutHead ih n
  | _ => assumption

theorem alarmsMerged (h : u.Moves rules T v) (hu : AlarmsMerged u.alarms) : AlarmsMerged v.alarms := by
  induction h with
  | refl => exact hu
  | alarm h kind hk ih => exact ih.raise _ ⟨nofun, fun e => absurd e hk⟩
  | refuse h b ih => rw [LaneView.refuse_eq]; exact ih
  | _ => assumption

end LaneView.Moves

end Sys2Proof.Machine
end

section
/-!
PROOFS. What the scanner port and the codes contribute to the moves of a lane: the operations on the command queue keep its
bounds (R53, R55), the receiver keeps its assembly in order (R45), and a code that passes makes a sound SCAN record (R71,
R73, R87).
-/

namespace Sys2Proof.Machine

/-! ### The scanner command queue (R53 to R56) -/

namespace ScannerPort.Queued

/-- The queue is within its bounds whatever the rest of the port is. -/
theorem of_cmds {p q : ScannerPort} (h : p.Queued) (hc : q.cmds = p.cmds) : q.Queued := by
  unfold ScannerPort.Queued at h ⊢
  rw [hc]
  exact h

theorem of_nil {p : ScannerPort} (h : p.cmds = []) : p.Queued := by
  unfold ScannerPort.Queued
  rw [h]
  exact ⟨Nat.zero_le _, Nat.zero_le _⟩

/-- No 'E' or 'D' waits after the waiting ones are withdrawn, so the one appended waits alone (R55, R56). -/
theorem appendEnable {p : ScannerPort} (h : p.cmds.length ≤ 4) (e : Enable) (line : Option Enable) (r : Reasons) :
    (ScannerPort.appendEnable { p with cmds := withdrawWaiting p.cmds, lineState := line, reasons := r } e).Queued := by
  have hcmds : (ScannerPort.appendEnable
      { p with cmds := withdrawWaiting p.cmds, lineState := line, reasons := r } e).cmds =
        (p.cmds.take 1 ++ p.cmds.tail.filter ScanCmd.isTone).take 3 ++ [.enable e] := by
    rw [← withdrawWaiting_eq, ← makeRoom_withdrawn _ h]
    rfl
  unfold ScannerPort.Queued
  rw [hcmds]
  refine ⟨by simp, ?_⟩
  cases hc : p.cmds with
  | nil => simp
  | cons c rest =>
    have htones : ((rest.filter ScanCmd.isTone).take 2).filter (fun c => !c.isTone) = [] :=
      List.filter_eq_nil_iff.mpr fun x hx => by
        have := (List.mem_filter.mp (List.mem_of_mem_take hx)).2
        simp [this]
    simpa [htones] using List.length_filter_le _ [ScanCmd.enable e]

theorem withdrawn {p : ScannerPort} (h : p.cmds.length ≤ 4) :
    ScannerPort.Queued { p with cmds := withdrawWaiting p.cmds } := by
  unfold ScannerPort.Queued
  cases hc : p.cmds with
  | nil => simp [withdrawWaiting]
  | cons c rest =>
    rw [hc, List.length_cons] at h
    have hle := List.length_filter_le ScanCmd.isTone rest
    simp only [withdrawWaiting, List.length_cons, List.tail_cons, List.filter_filter]
    simp
    omega

theorem changeDesired {p : ScannerPort} (h : p.Queued) (e : Enable) : (p.changeDesired e).Queued := by
  unfold ScannerPort.changeDesired
  dsimp only
  split
  · exact withdrawn h.1
  · exact appendEnable h.1 e p.lineState p.reasons

theorem restate {p : ScannerPort} (h : p.Queued) : p.restate.Queued := appendEnable h.1 _ none p.reasons

theorem takeBack {p : ScannerPort} (h : p.Queued) : p.takeBack.Queued :=
  restate (p := { p with reasons := { p.reasons with check := false }, rx := .reset }) (h.of_cmds rfl)

theorem offerTone {p : ScannerPort} (h : p.Queued) (t : Tone) : (p.offerTone t).Queued := by
  obtain ⟨hlen, hwait⟩ := h
  rw [ScannerPort.offerTone_eq]
  unfold ScannerPort.withTone ScannerPort.Queued
  dsimp only
  split
  · next hfits =>
    obtain ⟨-, hroom⟩ := hfits
    refine ⟨by rw [List.length_append, List.length_singleton]; omega, ?_⟩
    cases hc : p.cmds with
    | nil => simp
    | cons c rest =>
      rw [hc] at hwait
      simpa [ScanCmd.isTone] using hwait
  · exact ⟨hlen, hwait⟩

theorem commandSent {p : ScannerPort} (h : p.Queued) : p.commandSent.Queued := by
  obtain ⟨hlen, hwait⟩ := h
  unfold ScannerPort.commandSent
  split
  · exact of_nil rfl
  · next next rest htail =>
    have hlen' := congrArg List.length htail
    rw [htail] at hwait
    rw [List.length_tail, List.length_cons] at hlen'
    refine ⟨by rw [List.length_cons]; omega, le_trans ?_ hwait⟩
    rw [List.filter_cons]
    split
    · exact Nat.le_succ _
    · exact le_rfl

end ScannerPort.Queued

end Sys2Proof.Machine
end

section
/-!
PROOFS. Codes (chapter 4): the rule that decides a code (R67 to R74), the check digit, the embedded value and the lookup key
(R70 to R73), and the soundness of what a passed code records.
-/

namespace Sys2Proof.Machine

/-! ### The check digit (R70) -/

/-- A digit's weight counted from the check digit, whose own place is 0 (R70). -/
def mod10Weight (place : Nat) : Nat := if place % 2 = 1 then 3 else 1

/-- A sum weighted by the distance to the end, taken from the end. -/
theorem weightedSum_reverse (w : Nat → Nat) (xs : List Nat) :
    (xs.zipIdx.map fun d => d.1 * w (xs.length + 1 - (d.2 + 1))).sum =
      ((xs.reverse.zipIdx 1).map fun d => d.1 * w d.2).sum := by
  induction xs with
  | nil => rfl
  | cons x xs ih =>
    rw [List.reverse_cons, List.zipIdx_append, List.map_append, List.sum_append, ← ih, List.zipIdx_cons,
      List.zipIdx_succ (i := 0), List.map_cons, List.sum_cons, List.map_map]
    simp [Function.comp_def]
    rw [Nat.add_comm, Nat.add_comm 1]

/-- The digits ahead of the check digit decide the sum and the expected digit. -/
theorem mod10Sum_concat (xs : List Nat) (c : Nat) :
    mod10Sum (xs ++ [c]) = ((xs.reverse.zipIdx 1).map fun d => d.1 * mod10Weight d.2).sum := by
  rw [← weightedSum_reverse, mod10Sum, List.dropLast_concat, List.length_append, List.length_singleton]
  rfl

theorem expectedDigit_concat (xs : List Nat) (c d : Nat) : expectedDigit (xs ++ [c]) = expectedDigit (xs ++ [d]) := by
  rw [expectedDigit, expectedDigit, mod10Sum_concat, mod10Sum_concat]

theorem expectedDigit_le (digits : List Nat) : expectedDigit digits ≤ 9 := by
  unfold expectedDigit
  omega

theorem digitOf_charOf {n : Nat} (h : n ≤ 9) : digitOf (charOf n) = n := by
  rw [digitOf, charOf, byteOf, BitVec.toNat_ofNat]
  omega

theorem isDigit_iff (b : Byte) : isDigit b = true ↔ 0x30 ≤ b.toNat ∧ b.toNat ≤ 0x39 := by
  simp [isDigit]

theorem digitOf_le {b : Byte} (h : isDigit b = true) : digitOf b ≤ 9 := by
  obtain ⟨-, hhigh⟩ := (isDigit_iff b).mp h
  unfold digitOf
  omega

/-- The check in the form of R70 with the check digit added in. -/
theorem mod10Passes_concat (init : List Byte) (b : Byte) (hb : isDigit b = true) :
    mod10Passes (init ++ [b]) = true ↔
      ((((init ++ [b]).reverse.map digitOf).zipIdx.map fun d => d.1 * mod10Weight d.2).sum) % 10 = 0 := by
  have hle := digitOf_le hb
  rw [mod10Passes, decide_eq_true_eq, List.map_append, List.map_singleton, List.getLast?_concat, expectedDigit,
    mod10Sum_concat, List.reverse_append, List.reverse_singleton, List.singleton_append, List.map_cons,
    List.zipIdx_cons, List.map_cons, List.sum_cons, List.map_reverse, Option.some.injEq]
  generalize (((init.map digitOf).reverse.zipIdx (0 + 1)).map fun d : Nat × Nat => d.1 * mod10Weight d.2).sum = sum
  rw [show mod10Weight 0 = 1 from rfl, Nat.mul_one]
  omega

/-- A string whose last character is replaced by the expected check digit satisfies the check (R73). -/
theorem mod10Passes_withCheckDigit (chars : List Byte) (h : chars ≠ []) :
    mod10Passes (withCheckDigit chars) = true := by
  have hlast : chars.map digitOf = chars.dropLast.map digitOf ++ [digitOf (chars.getLast h)] := by
    rw [← List.map_singleton, ← List.map_append, List.dropLast_append_getLast]
  rw [mod10Passes, decide_eq_true_eq, withCheckDigit, List.map_append, List.map_singleton, List.getLast?_concat,
    digitOf_charOf (expectedDigit_le _), hlast]
  exact congrArg some (expectedDigit_concat _ _ _)

/-! ### The embedded value (R72, R73) -/

theorem decimal_concat (digits : List Nat) (d : Nat) : decimal (digits ++ [d]) = 10 * decimal digits + d := by
  simp [decimal]

theorem decimal_lt (digits : List Nat) (h : ∀ d ∈ digits, d ≤ 9) : decimal digits < 10 ^ digits.length := by
  induction digits using List.reverseRecOn with
  | nil => decide
  | append_singleton xs d ih =>
    have hd := h d (by simp)
    have hxs := ih fun x hx => h x (List.mem_append_left _ hx)
    rw [decimal_concat, List.length_append, List.length_singleton, pow_succ]
    omega

theorem decimal_range (g : Nat → Nat) (n : Nat) :
    decimal ((List.range n).map g) = ((List.range n).map fun i => g i * 10 ^ (n - 1 - i)).sum := by
  induction n with
  | zero => rfl
  | succ n ih =>
    rw [List.range_succ, List.map_append, List.map_singleton, decimal_concat, ih, List.map_append, List.sum_append,
      ← List.sum_map_mul_left]
    have hscale : (List.range n).map (fun i => 10 * (g i * 10 ^ (n - 1 - i))) =
        (List.range n).map fun i => g i * 10 ^ (n + 1 - 1 - i) := by
      refine List.map_congr_left fun i hi => ?_
      have hlt := List.mem_range.mp hi
      rw [show n + 1 - 1 - i = n - 1 - i + 1 by omega, pow_succ]
      ring
    rw [hscale]
    simp

theorem drop_take_eq_range (chars : List Byte) (a n : Nat) (h : a + n ≤ chars.length) :
    (chars.drop a).take n = (List.range n).map fun i => chars.getD (a + i) 0x30 := by
  refine List.ext_getElem (by simp; omega) fun i hi hi' => ?_
  have hlt : i < n := by simpa using hi'
  simp [show a + i < chars.length by omega]

section

variable {f : ValueField} {minLen : Nat} {mod10 : Bool} {chars : List Byte}

theorem ValueField.valueOf_lt (f : ValueField) (h : ∀ b ∈ chars, isDigit b = true) : f.valueOf chars < 10 ^ f.count := by
  refine lt_of_lt_of_le (decimal_lt _ fun d hd => ?_) (Nat.pow_le_pow_right (by decide) (by simp))
  obtain ⟨b, hb, rfl⟩ := List.mem_map.mp hd
  exact digitOf_le (h b (List.mem_of_mem_drop (List.mem_of_mem_take hb)))

theorem ValueField.zeroed_length (h : f.start - 1 + f.count ≤ chars.length) :
    (f.zeroed chars).length = chars.length := by
  simp [ValueField.zeroed]
  omega

theorem withCheckDigit_length (h : chars ≠ []) : (withCheckDigit chars).length = chars.length := by
  have := List.length_pos_iff.mpr h
  simp [withCheckDigit]
  omega

theorem ValueField.lookupKey_length (h : f.start - 1 + f.count ≤ chars.length) (hne : chars ≠ []) :
    (f.lookupKey mod10 chars).length = chars.length := by
  have hz := ValueField.zeroed_length h
  unfold ValueField.lookupKey
  split
  · rw [withCheckDigit_length, hz]
    intro e
    rw [e] at hz
    exact hne (List.length_eq_zero_iff.mp hz.symm)
  · exact hz

theorem ValueField.lookupKey_passes (h : f.start - 1 + f.count ≤ chars.length) (hne : chars ≠ []) :
    mod10Passes (f.lookupKey true chars) = true := by
  have hz := ValueField.zeroed_length h
  refine mod10Passes_withCheckDigit _ fun e => ?_
  rw [e] at hz
  exact hne (List.length_eq_zero_iff.mp hz.symm)

theorem ValueField.zeroed_getElem? (h : f.start - 1 + f.count ≤ chars.length) (i : Nat) :
    (f.zeroed chars)[i]? = if f.start - 1 ≤ i ∧ i < f.start - 1 + f.count then some 0x30 else chars[i]? := by
  have hlen : (chars.take (f.start - 1)).length = f.start - 1 := by simp; omega
  unfold ValueField.zeroed
  rw [List.append_assoc, List.getElem?_append, hlen]
  split
  · next hi => rw [if_neg (by omega), List.getElem?_take_of_lt hi]
  · rw [List.getElem?_append, List.length_replicate]
    split
    · rw [if_pos (by omega), List.getElem?_replicate, if_pos (by omega)]
    · rw [if_neg (by omega), List.getElem?_drop, show f.start - 1 + f.count + (i - (f.start - 1) - f.count) = i by omega]

/-- The check digit apart, the lookup key is the code with its value digits '0' (R73). -/
theorem ValueField.lookupKey_getElem? (h : f.start - 1 + f.count ≤ chars.length) {i : Nat}
    (hi : mod10 = true → i < chars.length - 1) :
    (f.lookupKey mod10 chars)[i]? =
      if f.start - 1 ≤ i ∧ i < f.start - 1 + f.count then some 0x30 else chars[i]? := by
  have hz := ValueField.zeroed_length h
  rw [← ValueField.zeroed_getElem? h i]
  unfold ValueField.lookupKey
  split
  · next hm =>
    have hlt := hi hm
    rw [withCheckDigit, List.getElem?_append_left (by simp; omega), List.dropLast_eq_take,
      List.getElem?_take_of_lt (by omega)]
  · rfl

end

/-- Settles O37: the check, then the value and the lookup key. -/
theorem checkDigitValueAndLookupKey : Obligations.CheckDigitValueAndLookupKey := by
  unfold Obligations.CheckDigitValueAndLookupKey
  refine ⟨fun chars hne hdigits => ?check, fun f mod10 chars hstart hcount hfits hshort hdigits => ?key⟩
  case check =>
    have hlast := hdigits _ (List.getLast_mem hne)
    have hpasses := mod10Passes_concat chars.dropLast (chars.getLast hne) hlast
    rw [List.dropLast_append_getLast] at hpasses
    exact hpasses
  case key =>
    have hin : f.start - 1 + f.count ≤ chars.length := by omega
    have hne : chars ≠ [] := List.length_pos_iff.mp (by omega)
    refine ⟨?_, f.valueOf_lt hdigits, ValueField.lookupKey_length hin hne, fun hm => ?_,
      fun i _ hi => ValueField.lookupKey_getElem? hin hi⟩
    · rw [ValueField.valueOf, drop_take_eq_range chars _ _ hin, List.map_map, decimal_range]
      rfl
    · rw [hm]
      exact ValueField.lookupKey_passes hin hne

/-! ### The rule that decides (R67 to R69, R74) -/

theorem patternAgrees_iff (pattern : List (Option Byte)) (chars : List Byte) :
    patternAgrees pattern chars = true ↔
      pattern.length ≤ chars.length ∧
        ∀ (i : Nat) (b : Byte), pattern[i]? = some (some b) → chars[i]? = some b := by
  induction pattern generalizing chars with
  | nil => simp [patternAgrees]
  | cons e pattern ih =>
    cases chars with
    | nil => simp [patternAgrees]
    | cons c chars =>
      have hsucc : (∀ (i : Nat) (b : Byte), (e :: pattern)[i]? = some (some b) → (c :: chars)[i]? = some b) ↔
          (∀ b : Byte, e = some b → c = b) ∧
            ∀ (i : Nat) (b : Byte), pattern[i]? = some (some b) → chars[i]? = some b := by
        refine ⟨fun h => ⟨fun b hb => ?_, fun i b hb => h (i + 1) b hb⟩, fun ⟨hhead, htail⟩ i b hb => ?_⟩
        · exact Option.some.inj (h 0 b (congrArg some hb))
        · cases i with
          | zero => exact congrArg some (hhead b (Option.some.inj hb))
          | succ i => exact htail i b hb
      rw [hsucc]
      cases e with
      | none => simp [patternAgrees, ih]
      | some b =>
        simp only [patternAgrees, Bool.and_eq_true, decide_eq_true_eq, ih, List.length_cons, Nat.add_le_add_iff_right,
          Option.some.injEq, forall_eq']
        exact ⟨fun ⟨hb, hlen, hrest⟩ => ⟨hlen, hb.symm, hrest⟩, fun ⟨hlen, hb, hrest⟩ => ⟨hb.symm, hlen, hrest⟩⟩

theorem RuleClass.covers_iff (c : RuleClass) (k : CodeClass) :
    c.covers k = true ↔ c = .any ∨ (c = .numeric ∧ k = .numeric) ∨ (c = .alpha ∧ k = .alpha) := by
  cases c <;> cases k <;> decide

theorem CodeRule.matchesCode_iff (r : CodeRule) (code : Code) :
    r.matchesCode code = true ↔
      r.active = true ∧
        (r.cls = .any ∨ (r.cls = .numeric ∧ code.cls = .numeric) ∨ (r.cls = .alpha ∧ code.cls = .alpha)) ∧
        r.minLen ≤ code.chars.length ∧ code.chars.length ≤ r.maxLen ∧ r.pattern.length ≤ code.chars.length ∧
        ∀ (i : Nat) (b : Byte), r.pattern[i]? = some (some b) → code.chars[i]? = some b := by
  simp only [CodeRule.matchesCode, Bool.and_eq_true, decide_eq_true_eq, RuleClass.covers_iff, patternAgrees_iff,
    and_assoc]

theorem judge_unmatched {rules : Vector CodeRule 16} {set : LaneSet} {code : Code}
    (h : ∀ i : RuleIdx, rules[i].matchesCode code = false) :
    judge rules set code = if set.strict then .reject .noRule none else .pass none 0 false none := by
  have hnone : matchingRule rules code = none := List.find?_eq_none.mpr fun i _ => Bool.not_eq_true _ ▸ h i
  rw [judge, hnone]

theorem judge_matched {rules : Vector CodeRule 16} {set : LaneSet} {code : Code} {i : RuleIdx}
    (hi : rules[i].matchesCode code = true) (hfirst : ∀ j : RuleIdx, j < i → rules[j].matchesCode code = false) :
    judge rules set code = rules[i].judge i set.valueLimit code := by
  have hsome : matchingRule rules code = some i := by
    refine List.find?_eq_some_iff_getElem.mpr ⟨hi, i.val, by simp, by simp, fun j hj => ?_⟩
    simpa using hfirst ⟨j, by omega⟩ hj
  rw [judge, hsome]

/-- Settles O36, by whether an entry matches. -/
theorem theFirstMatchingRuleDecides : Obligations.TheFirstMatchingRuleDecides := by
  unfold Obligations.TheFirstMatchingRuleDecides
  refine ⟨fun r code => r.matchesCode_iff code, fun rules set code h => judge_unmatched h,
    fun rules set code i r hr hmatch hfirst => ?matched⟩
  rw [judge_matched (hr ▸ hmatch) hfirst, ← hr]
  refine ⟨fun hrej => ?reject, fun hrej hmod hfail => ?check, fun hrej hcheck => ?passed⟩
  case reject => rw [CodeRule.judge, if_pos hrej]
  case check => simp [CodeRule.judge, hrej, hmod, hfail]
  case passed =>
    have hpass : (r.mod10 && !mod10Passes code.chars) = false := by
      obtain h | h := hcheck <;> simp [h]
    refine ⟨fun hv => ?_, fun f hv hlimit => ?_, fun f hv hlimit => ?_⟩
    all_goals simp only [CodeRule.judge, hrej, hpass, CodeRule.valuePart, hv, aboveLimit, Option.map_none,
      Option.map_some, Bool.false_eq_true, if_false]
    · rw [decide_eq_true hlimit, if_pos rfl]
    · rw [decide_eq_false (Nat.not_lt.mpr hlimit), if_neg Bool.false_ne_true]

/-! ### What a passed code records (R71, R73, R87) -/

/-- A code as the receiver completes it: 1 to 48 characters of its class (R45). -/
def Code.Complete (c : Code) : Prop := 1 ≤ c.chars.length ∧ c.chars.length ≤ 48 ∧ c.admitted

/-- A rule passes a code under its own check and value field alone. -/
theorem CodeRule.judge_pass {r : CodeRule} {i : RuleIdx} {limit : Nat} {code : Code} {rule : Option RuleIdx}
    {tag : Fin 16} {checked : Bool} {value : Option ValuePart} (h : r.judge i limit code = .pass rule tag checked value) :
    checked = r.mod10 ∧ value = r.valuePart code.chars ∧ (r.mod10 = true → mod10Passes code.chars = true) := by
  unfold CodeRule.judge at h
  split at h
  · cases h
  · split at h
    · cases h
    · next hcheck =>
      split at h
      · cases h
      · cases h
        refine ⟨rfl, rfl, fun hm => ?_⟩
        simpa [hm] using hcheck

/-- The value part that a valid rule takes out of a complete code it matches. -/
theorem CodeRule.valuePart_sound {r : CodeRule} (hr : r.Valid) {code : Code} (hc : code.Complete)
    (hmatch : r.matchesCode code = true) {v : ValuePart} (hv : r.valuePart code.chars = some v) :
    v.value ≤ 999999 ∧ v.scale ≤ 3 ∧ v.lookup.length = code.chars.length ∧
      (r.mod10 = true → mod10Passes v.lookup = true) := by
  obtain ⟨-, -, -, -, -, -, hnumeric, -, hfits⟩ := hr
  obtain ⟨hlen, -, hadmitted⟩ := hc
  obtain ⟨-, hclass, hmin, -⟩ := (r.matchesCode_iff code).mp hmatch
  obtain ⟨f, hf, rfl⟩ := Option.map_eq_some_iff.mp hv
  obtain ⟨hstart, hcount, hcount6, hscale, hend, -⟩ := hfits f hf
  have hcls : code.cls = .numeric := by
    have hn := hnumeric (.inr (by rw [hf]; rfl))
    rw [hn] at hclass
    simpa using hclass
  have hdigits : ∀ b ∈ code.chars, isDigit b = true := fun b hb => by
    have := hadmitted b hb
    rwa [hcls] at this
  have hin : f.start - 1 + f.count ≤ code.chars.length := by omega
  have hne : code.chars ≠ [] := List.length_pos_iff.mp (by omega)
  have hvalue := f.valueOf_lt hdigits
  have hpow : 10 ^ f.count ≤ 10 ^ 6 := Nat.pow_le_pow_right (by decide) hcount6
  refine ⟨by dsimp only; omega, hscale, ValueField.lookupKey_length hin hne, fun hm => ?_⟩
  dsimp only
  rw [hm]
  exact ValueField.lookupKey_passes hin hne

theorem matchingRule_matches {rules : Vector CodeRule 16} {code : Code} {i : RuleIdx}
    (h : matchingRule rules code = some i) : rules[i].matchesCode code = true :=
  List.find?_some (p := fun j : RuleIdx => rules[j].matchesCode code) h

/-- A complete code that passes makes a sound SCAN record. -/
theorem judge_pass_sound {rules : Vector CodeRule 16} (hrules : ∀ i : RuleIdx, rules[i].Valid) {set : LaneSet}
    {code : Code} (hc : code.Complete) {rule : Option RuleIdx} {tag : Fin 16} {checked : Bool}
    {value : Option ValuePart} (h : judge rules set code = .pass rule tag checked value) (training : Bool) :
    (RecordBody.scan code rule tag checked training value).sound := by
  obtain ⟨hlen, hlen48, hadmitted⟩ := hc
  unfold judge at h
  split at h
  · next i hi =>
    have hmatch := matchingRule_matches hi
    obtain ⟨rfl, rfl, hpasses⟩ := CodeRule.judge_pass h
    exact ⟨hlen, hlen48, hadmitted, hpasses, fun v hv =>
      CodeRule.valuePart_sound (hrules i) ⟨hlen, hlen48, hadmitted⟩ hmatch hv⟩
  · split at h
    · cases h
    · cases h
      exact ⟨hlen, hlen48, hadmitted, nofun, nofun⟩

end Sys2Proof.Machine
end

section
/-!
PROOFS. Every operation on a view is a chain of moves: one lemma for each, in the shape of its definition. The operations of
the power controller, the settings, the key matrix scanner and the drawer ask that the chain may touch their part.
-/

namespace Sys2Proof.Machine

/-! ### The receive assembly (R45) -/

namespace Receiver.Law

theorem reset : Receiver.reset.Law :=
  ⟨fun _ => rfl, Nat.zero_le _, fun _ => rfl, nofun, nofun⟩

theorem frameStarted (gap : Option Time) :
    Receiver.Law { state := .inFrame, cls := none, chars := [], gap := gap, breakPending := false } :=
  ⟨nofun, Nat.zero_le _, fun _ => rfl, nofun, nofun⟩

variable {rx : Receiver}

theorem classTaken (h : rx.Law) (hs : rx.state = .inFrame) (hc : rx.cls = none) (c : CodeClass) (gap : Option Time) :
    Receiver.Law { rx with cls := some c, gap := gap } := by
  obtain ⟨-, hlen, hnone, -, -⟩ := h
  have hchars := hnone hc
  refine ⟨fun e => ?_, hlen, nofun, fun k _ b hb => ?_, fun e => ?_⟩
  · exact absurd (hs.symm.trans e) nofun
  · rw [show rx.chars = [] from hchars] at hb
    cases hb
  · exact absurd (hs.symm.trans e) nofun

theorem characterTaken (h : rx.Law) (hs : rx.state = .inFrame) {c : CodeClass} (hc : rx.cls = some c) {b : Byte}
    (hb : c.admits b = true) (hlen : rx.chars.length < 48) (gap : Option Time) :
    Receiver.Law { rx with chars := rx.chars ++ [b], gap := gap } := by
  obtain ⟨-, -, -, hadmits, -⟩ := h
  refine ⟨fun e => ?_, ?_, fun e => ?_, fun k hk x hx => ?_, fun e => ?_⟩
  · exact absurd (hs.symm.trans e) nofun
  · rw [List.length_append, List.length_singleton]
    omega
  · exact absurd (hc.symm.trans e) nofun
  · have hk' : k = c := Option.some.inj ((Option.mem_def.mp hk).symm.trans hc)
    obtain hx | hx := List.mem_append.mp hx
    · exact hadmits k hk x hx
    · rw [List.mem_singleton.mp hx, hk']
      exact hb
  · exact absurd (hs.symm.trans e) nofun

theorem endTaken (h : rx.Law) {c : CodeClass} (hc : rx.cls = some c) (hne : rx.chars ≠ []) (gap : Option Time) :
    Receiver.Law { rx with state := .awaitBcc, gap := gap } := by
  obtain ⟨-, hlen, hnone, hadmits, -⟩ := h
  exact ⟨nofun, hlen, hnone, hadmits, fun _ => ⟨by rw [hc]; rfl, hne⟩⟩

theorem breakTaken (h : rx.Law) (hs : rx.state ≠ .idle) : Receiver.Law { rx with breakPending := true } := by
  obtain ⟨-, hlen, hnone, hadmits, hawait⟩ := h
  exact ⟨fun e => absurd e hs, hlen, hnone, hadmits, hawait⟩

/-- The frame whose BCC is awaited holds a complete code. -/
theorem code_complete (h : rx.Law) (hs : rx.state = .awaitBcc) {code : Code} (hc : rx.code = some code) :
    code.Complete := by
  obtain ⟨-, hlen, -, hadmits, hawait⟩ := h
  obtain ⟨c, hcls, rfl⟩ := Option.map_eq_some_iff.mp hc
  exact ⟨List.length_pos_iff.mpr (hawait hs).2, hlen, hadmits c hcls⟩

end Receiver.Law

/-! ### The operations as chains of moves -/

namespace LaneView.Moves

variable {rules : Vector CodeRule 16} {T : LanePart → Prop} {u v w : LaneView}

/-! A choice is a chain of moves when both its ways are; the proofs below nest the two lemmas as the definitions nest
their choices. -/

theorem branch {c : Prop} [Decidable c] (hv : u.Moves rules T v) (hw : u.Moves rules T w) :
    u.Moves rules T (if c then v else w) := by
  split
  · exact hv
  · exact hw

theorem branchFst {α : Type} {c : Prop} [Decidable c] {p q : LaneView × α} (hp : u.Moves rules T p.1)
    (hq : u.Moves rules T q.1) : u.Moves rules T (if c then p else q).1 := by
  split
  · exact hp
  · exact hq

theorem foldl {α : Type} {f : LaneView → α → LaneView}
    (hf : ∀ {x : LaneView} (a : α), u.Moves rules T x → u.Moves rules T (f x a)) (as : List α)
    (h : u.Moves rules T v) : u.Moves rules T (as.foldl f v) := by
  induction as generalizing v with
  | nil => exact h
  | cons a as ih => exact ih (hf a h)

/-! The shared operations. -/

theorem setLive (h : u.Moves rules T v) (c : Condition) (b : Bool) : u.Moves rules T (v.setLive c b) := h.setLives _

/-- A change of the port that leaves its command queue. -/
theorem setRx (h : u.Moves rules T v) (rx : Receiver) (hrx : v.ln.port.rx.Law → rx.Law) :
    u.Moves rules T (v.setRx rx) :=
  h.setPort _ (fun hq => hq.of_cmds rfl) hrx

theorem raise (h : u.Moves rules T v) (c : CounterName) : u.Moves rules T (v.raise c) :=
  h.setCounters _ fun hb => hb.raise c

theorem zeroCounters (h : u.Moves rules T v) : u.Moves rules T (v.setCounters .zero) :=
  h.setCounters _ fun _ => Counters.zero_bounded

theorem setReasons (h : u.Moves rules T v) (r : Reasons) : u.Moves rules T (v.setReasons r) := by
  have hreasons (hq : v.ln.port.Queued) : ScannerPort.Queued { v.ln.port with reasons := r } := hq.of_cmds rfl
  obtain ⟨hrx, -, -⟩ := ScannerPort.changeDesired_frame { v.ln.port with reasons := r } r.desired
  unfold LaneView.setReasons
  refine .branch (h.setPort _ (fun hq => (hreasons hq).changeDesired _) fun hl => ?_)
    (h.setPort _ hreasons fun hl => hl)
  rw [hrx]
  exact hl

theorem evalFlow (h : u.Moves rules T v) (n : Nat) : u.Moves rules T (v.evalFlow n) := by
  induction n generalizing v with
  | zero => exact h
  | succ n ih =>
    unfold LaneView.evalFlow
    split
    · exact h
    · next flow _ =>
      have hset := h.setReasons { v.ln.port.reasons with flow := flow }
      have hlive := hset.setLive .scannerHeld flow
      refine .branch (.branch ?_ hlive) hset
      dsimp only
      split
      · next ht => exact ih (hlive.enqueue _ ht fun _ _ => trivial)
      · exact hlive.refuse _

/-- An offered SCAN record is to be sound; the other records have nothing to show. -/
theorem offerSound (h : u.Moves rules T v) (b : RecordBody)
    (hb : (∀ i : RuleIdx, rules[i].Valid) → u.ln.port.rx.Law → b.sound) : u.Moves rules T (v.offer b) := by
  unfold LaneView.offer
  split
  · next ht => exact (h.enqueue b ht hb).evalFlow _
  · exact h.refuse b

theorem offer (h : u.Moves rules T v) (b : RecordBody) (hb : b.sound := by trivial) : u.Moves rules T (v.offer b) :=
  h.offerSound b fun _ _ => hb

theorem handOver (h : u.Moves rules T v) (c : Condition) (b : Bool) : u.Moves rules T (v.handOver c b) := by
  obtain e | e | e := v.handOver_cases c b <;> rw [e]
  · exact h
  · exact h.setLive c b
  · exact (h.setLive c b).offer _

theorem closeCounters (h : u.Moves rules T v) (before : Counters) : u.Moves rules T (v.closeCounters before) :=
  .branch h (h.handOver _ _)

theorem offerTone (h : u.Moves rules T v) (t : Tone) : u.Moves rules T (v.offerTone t) := by
  refine .branch (h.setPort _ (fun hq => hq.offerTone t) fun hl => ?_) h
  rw [ScannerPort.offerTone_eq]
  exact hl

theorem confirmTone (h : u.Moves rules T v) (t : Tone) : u.Moves rules T (v.confirmTone t) := .branch (h.offerTone t) h

/-! Codes (chapter 4). -/

theorem rejected (h : u.Moves rules T v) (code : Code) (reason : RejectReason) (rule : Option RuleIdx) :
    u.Moves rules T (v.rejected code reason rule) :=
  .branch (((h.raise _).offer _).confirmTone _) ((((h.raise _).offer _).raise _).confirmTone _)

theorem accepted (h : u.Moves rules T v) (code : Code) (rule : Option RuleIdx) (tag : Fin 16) (checked : Bool)
    (value : Option ValuePart)
    (hb : (∀ i : RuleIdx, rules[i].Valid) → u.ln.port.rx.Law → ∀ training,
      (RecordBody.scan code rule tag checked training value).sound) :
    u.Moves rules T (v.accepted code rule tag checked value) := by
  have hoffered (training : Bool) := h.offerSound (.scan code rule tag checked training value)
    fun hr hx => hb hr hx training
  exact .branch ((((hoffered _).raise _).setFilter _).confirmTone _) (((hoffered _).raise _).confirmTone _)

theorem suppressed (h : u.Moves rules T v) : u.Moves rules T v.suppressed := (h.raise _).setFilter _

theorem checkCode (h : u.Moves rules T v) (code : Code) (hc : u.ln.port.rx.Law → code.Complete) :
    u.Moves rules T (v.checkCode rules code) := by
  unfold LaneView.checkCode
  refine closeCounters ?_ _
  split
  · exact h.rejected _ _ _
  · next rule tag checked value hj =>
    exact .branch h.suppressed (h.accepted _ _ _ _ _ fun hr hx => judge_pass_sound hr (hc hx) hj)

theorem windowExpiry (h : u.Moves rules T v) : u.Moves rules T v.windowExpiry := .branch (h.setFilter _) h

/-! The line check (chapter 9). -/

theorem startCheck (h : u.Moves rules T v) (seconds : Nat) : u.Moves rules T (v.startCheck seconds) :=
  (h.setPort _ (fun _ => .of_nil rfl) fun _ => Receiver.Law.reset).setChecker _

theorem closeCheck (h : u.Moves rules T v) (cause : EndCause) : u.Moves rules T (v.closeCheck cause) :=
  ((h.setChecker _).offer _).setChecker _

theorem endCheck (h : u.Moves rules T v) (cause : EndCause) : u.Moves rules T (v.endCheck cause) :=
  (h.closeCheck cause).setPort _ (fun hq => hq.takeBack) fun _ => Receiver.Law.reset

theorem checkStart (h : u.Moves rules T v) (duration : Byte) : u.Moves rules T (v.checkStart duration).1 :=
  .branchFst h (h.startCheck _)

theorem checkStop (h : u.Moves rules T v) : u.Moves rules T v.checkStop.1 := .branchFst (h.endCheck _) h

theorem checkInsert (h : u.Moves rules T v) : u.Moves rules T v.checkInsert.1 :=
  .branchFst h (.branchFst h (h.setChecker _))

theorem checkByteSent (h : u.Moves rules T v) : u.Moves rules T v.checkByteSent := .branch (h.setChecker _) h

theorem checkTimerExpiry (h : u.Moves rules T v) : u.Moves rules T v.checkTimerExpiry := .branch (h.endCheck _) h

/-! Lane power (chapter 1). -/

theorem leave (h : u.Moves rules T v) (hpower : T .power) (hkeys : T .keys) (hdrawer : T .drawer) (dest : LaneState) :
    u.Moves rules T { v with ln := v.ln.leave dest } :=
  (((((((h.setPower hpower
    { state := dest, progress := none, start := v.ln.power.start, timer := none, pen := false }).setKeys hkeys
      .reset).setPort v.ln.port.laneReset (fun _ => .of_nil rfl) fun _ => Receiver.Law.reset).setFilter
        .cleared).setDrawer hdrawer v.ln.drawer.laneReset).setLives (Vector.replicate 8 false)).setReport
          none).setChecker v.ln.checker.cleared

theorem leaveFor (h : u.Moves rules T v) (hpower : T .power) (hkeys : T .keys) (hdrawer : T .drawer)
    (dest : LaneState) : u.Moves rules T (v.leaveFor dest) :=
  (leave (.branch (h.closeCheck _) h) hpower hkeys hdrawer dest).offer _

theorem trip (h : u.Moves rules T v) (hpower : T .power) (hkeys : T .keys) (hdrawer : T .drawer) :
    u.Moves rules T v.trip :=
  (h.alarm .powerTrip nofun).leaveFor hpower hkeys hdrawer _

theorem enterSettling (h : u.Moves rules T v) (hpower : T .power) (hkeys : T .keys) (hdrawer : T .drawer) :
    u.Moves rules T v.enterSettling := by
  have hrecorded := (h.setPower hpower (Machine.enteringSettling v.now)).offer (.lane .settling none)
  exact .branch (hrecorded.trip hpower hkeys hdrawer) hrecorded

theorem startBlocks (h : u.Moves rules T v) (hpower : T .power) (hkeys : T .keys) (hdrawer : T .drawer) :
    u.Moves rules T v.startBlocks :=
  (((h.setPower hpower { v.ln.power with state := .on }).setKeys hkeys (v.ln.startedKeys v.now)).setPort
    (v.ln.startedPort v.now) (fun hq => ScannerPort.Queued.restate (hq.of_cmds rfl))
    fun _ => Receiver.Law.reset).setDrawer hdrawer (v.ln.startedDrawer v.now)

theorem evaluateConditions (h : u.Moves rules T v) : u.Moves rules T v.evaluateConditions :=
  h.foldl (fun _ hx => hx.handOver _ _) _

theorem startReport (h : u.Moves rules T v) : u.Moves rules T v.startReport := h.setReport _

theorem enterOn (h : u.Moves rules T v) (hpower : T .power) (hkeys : T .keys) (hdrawer : T .drawer) :
    u.Moves rules T v.enterOn := by
  have hstarted := ((h.offer (.lane .on v.ln.power.progress)).startBlocks hpower hkeys hdrawer).evaluateConditions
  unfold LaneView.enterOn
  dsimp only
  split
  · exact hstarted.startReport
  · exact hstarted

theorem passMilestone (h : u.Moves rules T v) (hpower : T .power) (hkeys : T .keys) (hdrawer : T .drawer) :
    u.Moves rules T v.passMilestone := by
  unfold LaneView.passMilestone
  split
  · exact .branch ((h.setPower hpower _).enterOn hpower hkeys hdrawer) (h.setPower hpower _)
  · exact h

theorem settleExpiry (h : u.Moves rules T v) (hpower : T .power) (hkeys : T .keys) (hdrawer : T .drawer) :
    u.Moves rules T v.settleExpiry :=
  .branch (h.passMilestone hpower hkeys hdrawer) h

theorem powerOn (h : u.Moves rules T v) (hpower : T .power) (hkeys : T .keys) (hdrawer : T .drawer) :
    u.Moves rules T v.powerOn.1 := by
  unfold LaneView.powerOn
  split
  · exact h.enterSettling hpower hkeys hdrawer
  all_goals exact h

theorem powerOff (h : u.Moves rules T v) (hpower : T .power) (hkeys : T .keys) (hdrawer : T .drawer) :
    u.Moves rules T v.powerOff.1 := by
  have hleft := h.leaveFor hpower hkeys hdrawer .off
  unfold LaneView.powerOff
  split
  case h_1 => exact h
  case h_3 => exact .branchFst h hleft
  all_goals exact hleft

theorem pflTrip (h : u.Moves rules T v) (hpower : T .power) (hkeys : T .keys) (hdrawer : T .drawer) :
    u.Moves rules T (if v.ln.powered then v.trip else v) :=
  .branch (h.trip hpower hkeys hdrawer) h

/-! Counters (chapter 7). -/

theorem reportExpiry (h : u.Moves rules T v) : u.Moves rules T v.reportExpiry := by
  unfold LaneView.reportExpiry
  split
  · exact h
  · exact .branch ((setReport (.branch (h.offer _).zeroCounters (h.offer _)) _).closeCounters _) h

theorem countsRequest (h : u.Moves rules T v) (clear : Bool) : u.Moves rules T (v.countsRequest clear).1 := by
  unfold LaneView.countsRequest
  split
  case h_2 => exact h.zeroCounters.closeCounters _
  all_goals exact h

/-! The drawer (chapter 6). -/

theorem offerDrawer (h : u.Moves rules T v) (e : DrawerEvent) : u.Moves rules T (v.offerDrawer e) := h.offer _

theorem setDrawerReason (h : u.Moves rules T v) (present : Bool) : u.Moves rules T (v.setDrawerReason present) :=
  h.setReasons _

theorem enterOpen (h : u.Moves rules T v) (hdrawer : T .drawer) : u.Moves rules T v.enterOpen :=
  .branch ((h.setDrawer hdrawer _).setDrawerReason _) (h.setDrawer hdrawer _)

theorem openFromAwait (h : u.Moves rules T v) (hdrawer : T .drawer) : u.Moves rules T v.openFromAwait :=
  ((h.setDrawer hdrawer _).enterOpen hdrawer).offerDrawer _

theorem cutPulse (h : u.Moves rules T v) (hdrawer : T .drawer) : u.Moves rules T v.cutPulse := h.setDrawer hdrawer _

theorem enterAwaitOpen (h : u.Moves rules T v) (hdrawer : T .drawer) : u.Moves rules T v.enterAwaitOpen :=
  .branch ((h.setDrawer hdrawer _).openFromAwait hdrawer) (h.setDrawer hdrawer _)

theorem grant (h : u.Moves rules T v) (hdrawer : T .drawer) (source : ReleaseSource) :
    u.Moves rules T (v.grant source) :=
  (h.setDrawer hdrawer _).offer _

theorem hostRelease (h : u.Moves rules T v) (hdrawer : T .drawer) : u.Moves rules T v.hostRelease.1 :=
  .branch (h.grant hdrawer _) h

theorem localAttempt (h : u.Moves rules T v) (hdrawer : T .drawer) : u.Moves rules T v.localAttempt :=
  .branch (h.grant hdrawer _) (h.offer _)

theorem firstSense (h : u.Moves rules T v) (hdrawer : T .drawer) (level : Sense) :
    u.Moves rules T (v.firstSense level) := by
  cases level with
  | closed => exact (h.setDrawer hdrawer _).offerDrawer _
  | opened => exact (h.enterOpen hdrawer).offerDrawer _

theorem forcedOpening (h : u.Moves rules T v) (hdrawer : T .drawer) : u.Moves rules T v.forcedOpening :=
  ((h.enterOpen hdrawer).offerDrawer _).alarm _ nofun

theorem closing (h : u.Moves rules T v) (hdrawer : T .drawer) : u.Moves rules T v.closing :=
  have henabled {x y : Drawer} {d : Option Time} :=
    (((h.setDrawer hdrawer x).offer (.drawer .closed .closed none none d)).setDrawer hdrawer y).setDrawerReason false
  .branch (henabled.handOver _ _) henabled

theorem senseChange (h : u.Moves rules T v) (hdrawer : T .drawer) (level : Sense) :
    u.Moves rules T (v.senseChange level) := by
  unfold LaneView.senseChange
  split
  case h_1 => exact h.firstSense hdrawer _
  case h_2 => exact h.forcedOpening hdrawer
  case h_5 => exact h.openFromAwait hdrawer
  case h_7 | h_8 => exact h.closing hdrawer
  all_goals exact h

theorem stabilityExpiry (h : u.Moves rules T v) (hdrawer : T .drawer) : u.Moves rules T v.stabilityExpiry := by
  unfold LaneView.stabilityExpiry
  split
  · exact h
  · exact .branch (.branch (h.setDrawer hdrawer _) ((h.setDrawer hdrawer _).senseChange hdrawer _)) h

theorem dsnChange (h : u.Moves rules T v) (hdrawer : T .drawer) (level : Sense) :
    u.Moves rules T (v.dsnChange level) :=
  .branch (h.setDrawer hdrawer _) h

theorem pulseExpiry (h : u.Moves rules T v) (hdrawer : T .drawer) : u.Moves rules T v.pulseExpiry :=
  have hcut := h.cutPulse hdrawer
  .branch (.branch ((hcut.enterOpen hdrawer).offerDrawer _) (hcut.enterAwaitOpen hdrawer)) h

theorem docAssert (h : u.Moves rules T v) (hdrawer : T .drawer) : u.Moves rules T v.docAssert :=
  have hlatched := ((h.cutPulse hdrawer).setDrawer hdrawer _).alarm .driverFault nofun
  .branch ((hlatched.enterAwaitOpen hdrawer).handOver _ _) h

theorem confirmExpiry (h : u.Moves rules T v) (hdrawer : T .drawer) : u.Moves rules T v.confirmExpiry :=
  .branch ((h.setDrawer hdrawer _).offerDrawer _) h

theorem openLongExpiry (h : u.Moves rules T v) (hdrawer : T .drawer) : u.Moves rules T v.openLongExpiry :=
  .branch (((h.setDrawer hdrawer _).offerDrawer _).handOver _ _) h

theorem clearFault (h : u.Moves rules T v) (hdrawer : T .drawer) : u.Moves rules T v.clearFault :=
  .branch ((h.setDrawer hdrawer _).handOver _ _) h

theorem lockdownCut (h : u.Moves rules T v) (hdrawer : T .drawer) : u.Moves rules T v.lockdownCut :=
  .branch ((h.cutPulse hdrawer).enterAwaitOpen hdrawer) h

/-! The key matrix (chapter 2). -/

theorem releaseKey (h : u.Moves rules T v) (hkeys : T .keys) (p : KeyPos) : u.Moves rules T (v.releaseKey p) :=
  .branch ((h.setKeys hkeys _).offer _) (h.setKeys hkeys _)

theorem afterReleases (h : u.Moves rules T v) (hkeys : T .keys) : u.Moves rules T v.afterReleases := h.setKeys hkeys _

theorem keylockStage (h : u.Moves rules T v) (hkeys : T .keys) : u.Moves rules T v.keylockStage :=
  .branch (h.setKeys hkeys _) ((h.setKeys hkeys _).offer _)

theorem keyTaken (h : u.Moves rules T v) (hkeys : T .keys) (hdrawer : T .drawer) (p : KeyPos) :
    u.Moves rules T (v.keyTaken p) :=
  have hjoined := (h.setKeys hkeys _).setFilter .cleared
  .branch (hjoined.localAttempt hdrawer) hjoined

theorem pressKey (h : u.Moves rules T v) (hkeys : T .keys) (hdrawer : T .drawer) (p : KeyPos) :
    u.Moves rules T (v.pressKey p) :=
  .branch (h.setKeys hkeys _)
    (.branch (h.setKeys hkeys _)
      (.branch ((h.offer _).keyTaken hkeys hdrawer _) ((h.setKeys hkeys _).raise _)))

theorem statusStage (h : u.Moves rules T v) : u.Moves rules T v.statusStage :=
  ((h.handOver _ _).handOver _ _).handOver _ _

theorem processSample (h : u.Moves rules T v) (hkeys : T .keys) (hdrawer : T .drawer) (raw : BitVec 128) :
    u.Moves rules T (v.processSample raw) := by
  have hreleased (ups : List KeyPos) :=
    (h.setKeys hkeys (v.ln.sampledKeys v.now raw)).foldl (fun p hx => hx.releaseKey hkeys p) ups
  have hpressed (ups downs : List KeyPos) :=
    (((hreleased ups).afterReleases hkeys).keylockStage hkeys).foldl (fun p hx => hx.pressKey hkeys hdrawer p) downs
  exact (hpressed _ _).statusStage.closeCounters _

theorem sampleArrival (h : u.Moves rules T v) (hkeys : T .keys) (hdrawer : T .drawer) (raw : BitVec 128) :
    u.Moves rules T (v.sampleArrival raw) :=
  .branch (h.processSample hkeys hdrawer raw) h

theorem typematicExpiry (h : u.Moves rules T v) (hkeys : T .keys) : u.Moves rules T v.typematicExpiry := by
  unfold LaneView.typematicExpiry
  split
  · exact h
  · exact .branch ((h.offer _).setKeys hkeys _) h

theorem changeKeymap (h : u.Moves rules T v) (hkeymap : T .keymap) (first count attr : Byte) :
    u.Moves rules T (v.changeKeymap first count attr).1 := by
  unfold LaneView.changeKeymap
  split
  · exact h
  · exact .branchFst (h.setKeymap hkeymap _) h

/-! The scanner port (chapter 3). -/

theorem startFrame (h : u.Moves rules T v) : u.Moves rules T v.startFrame :=
  h.setRx _ fun _ => Receiver.Law.frameStarted _

theorem abortFrame (h : u.Moves rules T v) : u.Moves rules T v.abortFrame :=
  (((h.setRx _ fun _ => Receiver.Law.reset).raise _).confirmTone _).closeCounters _

theorem completeFrame (h : u.Moves rules T v) (code : Code) (hc : u.ln.port.rx.Law → code.Complete) :
    u.Moves rules T (v.completeFrame rules code) :=
  (h.setRx _ fun _ => Receiver.Law.reset).checkCode code hc

theorem byteInFrame (h : u.Moves rules T v) (hs : v.ln.port.rx.state = .inFrame) (b : Byte) :
    u.Moves rules T (v.byteInFrame b) := by
  unfold LaneView.byteInFrame
  dsimp only
  split
  · next hcls =>
    split
    · exact h.setRx _ fun hl => hl.classTaken hs hcls _ _
    · exact h.abortFrame
  · next c hcls =>
    split
    · split
      · exact h.abortFrame
      · next hne => exact h.setRx _ fun hl => hl.endTaken hcls hne _
    · split
      · next hadmits =>
        split
        · next hlen => exact h.setRx _ fun hl => hl.characterTaken hs hcls hadmits hlen _
        · exact h.abortFrame
      · exact h.abortFrame

theorem byteAsBcc (h : u.Moves rules T v) (hs : v.ln.port.rx.state = .awaitBcc) (b : Byte) :
    u.Moves rules T (v.byteAsBcc rules b) := by
  unfold LaneView.byteAsBcc
  split
  · next code hcode => exact .branch (h.completeFrame _ fun hx => (h.rx_law hx).code_complete hs hcode) h.abortFrame
  · exact h.abortFrame

theorem receiveByte (h : u.Moves rules T v) (b : Byte) (stopError : Bool) :
    u.Moves rules T (v.receiveByte rules b stopError) := by
  unfold LaneView.receiveByte
  refine .branch h ?_
  split
  · exact .branch h.startFrame h
  · next hs => exact .branch h.abortFrame (.branch h.abortFrame.startFrame (h.byteInFrame hs b))
  · next hs => exact .branch h.abortFrame (h.byteAsBcc hs b)

theorem breakCharacter (h : u.Moves rules T v) : u.Moves rules T v.breakCharacter := by
  unfold LaneView.breakCharacter
  split
  · next hc =>
    simp only [Bool.and_eq_true, decide_eq_true_eq] at hc
    exact h.setRx _ fun hl => hl.breakTaken hc.2
  · exact h

theorem srxByte (h : u.Moves rules T v) (b : Byte) (stopError : Bool) :
    u.Moves rules T (v.srxByte rules b stopError) :=
  .branch h (.branch h.breakCharacter (.branch (h.setChecker _) (h.receiveByte b stopError)))

theorem frameCompletion (h : u.Moves rules T v) : u.Moves rules T (v.frameCompletion rules) := by
  unfold LaneView.frameCompletion
  split
  · next code hcode =>
    split
    · next hc =>
      simp only [Bool.and_eq_true, decide_eq_true_eq] at hc
      obtain ⟨⟨-, hs⟩, -⟩ := hc
      exact h.completeFrame _ fun hx => (h.rx_law hx).code_complete hs hcode
    · exact h
  · exact h

theorem gapExpiry (h : u.Moves rules T v) : u.Moves rules T v.gapExpiry := .branch h.abortFrame h

theorem srxChange (h : u.Moves rules T v) (level : LineLevel) : u.Moves rules T (v.srxChange level) :=
  have htimed {brk : BreakDetector} :=
    h.setPort { v.ln.port with brk := brk } (fun hq => hq.of_cmds rfl) fun hl => hl
  .branch (.branch htimed.abortFrame htimed) h

theorem breakAtSpace (h : u.Moves rules T v) : u.Moves rules T v.breakAtSpace :=
  (h.setPort { v.ln.port with rx := .reset, brk := { v.ln.port.brk with absent := true, timer := none } }
    (fun hq => hq.of_cmds rfl) fun _ => Receiver.Law.reset).handOver _ _

theorem breakAtMark (h : u.Moves rules T v) : u.Moves rules T v.breakAtMark :=
  have htimed {brk : BreakDetector} :=
    h.setPort { v.ln.port with brk := brk } (fun hq => hq.of_cmds rfl) fun hl => hl
  have hfound {brk : BreakDetector} := (htimed (brk := brk)).handOver .scannerAbsent false
  .branch (.branch hfound (hfound.setPort _ (fun hq => hq.restate) fun hl => hl)) htimed

theorem breakExpiry (h : u.Moves rules T v) : u.Moves rules T v.breakExpiry := by
  unfold LaneView.breakExpiry
  refine .branch ?_ h
  split
  · exact .branch h.breakAtSpace h.breakAtMark
  · exact h

theorem commandSent (h : u.Moves rules T v) : u.Moves rules T v.commandSent := by
  refine .branch (h.setPort _ (fun hq => hq.commandSent) fun hl => ?_) h
  unfold ScannerPort.commandSent
  split <;> exact hl

theorem requestTone (h : u.Moves rules T v) (tone : Byte) : u.Moves rules T (v.requestTone tone).1 := by
  unfold LaneView.requestTone
  split
  · exact h
  · exact .branchFst h (.branchFst (h.offerTone _) h)

end LaneView.Moves

end Sys2Proof.Machine
end

section
/-!
PROOFS. Settings (section 10.5) and the fields of a RULE (R64): clamps take the nearest value (R180), what is stored lies in
its range, and an entry is stored exactly when it is valid.
-/

namespace Sys2Proof.Machine

/-! ### Clamps (R43, R75, R180) -/

theorem clamp_bounds {lo hi : Nat} (h : lo ≤ hi) (n : Nat) : lo ≤ clamp lo hi n ∧ clamp lo hi n ≤ hi := by
  unfold clamp
  split
  · omega
  · split <;> omega

theorem clamp_nearest {lo hi m : Nat} (hlo : lo ≤ m) (hhi : m ≤ hi) (n : Nat) :
    ((clamp lo hi n : Int) - n).natAbs ≤ ((m : Int) - n).natAbs := by
  unfold clamp
  split
  · omega
  · split <;> omega

/-- The rates of R43. -/
def scannerRates : List Nat := [9600, 19200, 38400, 57600, 115200]

theorem nearestRate_mem (n : Nat) : nearestRate n ∈ scannerRates := by
  unfold nearestRate
  repeat' split
  all_goals decide

theorem nearestRate_nearest (n : Nat) {r : Nat} (hr : r ∈ scannerRates) :
    ((nearestRate n : Int) - n).natAbs ≤ ((r : Int) - n).natAbs ∧
      (((nearestRate n : Int) - n).natAbs = ((r : Int) - n).natAbs → nearestRate n ≤ r) := by
  simp only [scannerRates, List.mem_cons, List.not_mem_nil, or_false] at hr
  unfold nearestRate
  repeat' split
  all_goals omega

theorem nearestWindow_spec (n : Nat) : nearestWindow n ≤ 2550 ∧ nearestWindow n % 10 = 0 := by
  unfold nearestWindow
  repeat' split
  all_goals omega

theorem nearestWindow_nearest (n : Nat) {k : Nat} (hk : k ≤ 255) :
    ((nearestWindow n : Int) - n).natAbs ≤ ((10 * k : Int) - n).natAbs ∧
      (((nearestWindow n : Int) - n).natAbs = ((10 * k : Int) - n).natAbs → nearestWindow n ≤ 10 * k) := by
  unfold nearestWindow
  repeat' split
  all_goals omega

/-- Settles O10: a clamped number, the scanner rate and the duplicate window. -/
theorem clampedFieldsTakeTheNearestValue : Obligations.ClampedFieldsTakeTheNearestValue := by
  unfold Obligations.ClampedFieldsTakeTheNearestValue
  refine ⟨fun lo hi n m hlo hhi => ?number, fun n r hr => ?rate, fun n k hk => ?window⟩
  case number =>
    obtain ⟨hmin, hmax⟩ := clamp_bounds (hlo.trans hhi) n
    exact ⟨hmin, hmax, clamp_nearest hlo hhi n⟩
  case rate => exact ⟨nearestRate_mem n, nearestRate_nearest n hr⟩
  case window =>
    obtain ⟨hmax, hstep⟩ := nearestWindow_spec n
    exact ⟨hmax, hstep, nearestWindow_nearest n hk⟩

theorem laneCfg_store_inRange (f : LaneCfgFields) : f.store.InRange := by
  have hrate := nearestRate_mem f.rate.toNat
  simp only [scannerRates, List.mem_cons, List.not_mem_nil, or_false] at hrate
  refine ⟨?_, ?_, ?_, ?_, ?_, ?_, ?_, ?_, ?_, ?_, ?_, ?_, hrate, ?_, ?_, ?_, ?_, ?_, ?_⟩
  all_goals first
    | exact (clamp_bounds (by decide) _).1
    | exact (clamp_bounds (by decide) _).2

theorem laneSet_store_inRange (f : LaneSetFields) : f.store.InRange := by
  obtain ⟨hhigh8, hhigh28⟩ := clamp_bounds (show 8 ≤ 28 by decide) f.high.toNat
  obtain ⟨hwindow, hstep⟩ := nearestWindow_spec f.dupWindow.toNat
  have hlow := (clamp_bounds (Nat.zero_le (clamp 8 28 f.high.toNat - 4)) f.low.toNat).2
  obtain ⟨hquota2, hquota32⟩ := clamp_bounds (show 2 ≤ 32 by decide) f.quota.toNat
  obtain ⟨hopen5, hopen600⟩ := clamp_bounds (show 5 ≤ 600 by decide) f.openLong.toNat
  obtain ⟨hint1, hint255⟩ := clamp_bounds (show 1 ≤ 255 by decide) f.interval.toNat
  have hsum : clamp 0 (clamp 8 28 f.high.toNat - 4) f.low.toNat + 4 ≤ clamp 8 28 f.high.toNat := by omega
  exact ⟨(clamp_bounds (Nat.zero_le _) _).2, hwindow, hstep, hquota2, hquota32, hhigh8, hhigh28, hsum, hopen5, hopen600,
    hint1, hint255⟩

/-! ### The fields of a RULE (R64) -/

theorem byteOf_toNat (b : Byte) : byteOf b.toNat = b := BitVec.ofNat_toNat 8 b

theorem bitByte_beq_one {b : Byte} (h : b.toNat ≤ 1) : bitByte (b == 1) = b := by
  have hb : b = 0 ∨ b = 1 := by
    obtain h | h : b.toNat = 0 ∨ b.toNat = 1 := by omega
    · exact .inl (BitVec.eq_of_toNat_eq h)
    · exact .inr (BitVec.eq_of_toNat_eq h)
  obtain rfl | rfl := hb <;> decide

theorem RuleClass.ofByte_eq_some {b : Byte} {c : RuleClass} : RuleClass.ofByte b = some c ↔ b = c.byte := by
  unfold RuleClass.ofByte
  constructor
  · intro h
    repeat' split at h
    all_goals cases h
    all_goals assumption
  · rintro rfl
    cases c <;> decide

theorem RuleClass.ofByte_isSome (b : Byte) : (RuleClass.ofByte b).isSome = true ↔ b = 0x4E ∨ b = 0x41 ∨ b = 0x2A := by
  unfold RuleClass.ofByte
  repeat' split
  all_goals simp_all

end Sys2Proof.Machine

namespace Sys2Proof

open Machine

variable (f : RuleFields)

theorem RuleFields.mem_patternList (b : Byte) :
    some b ∈ f.patternList ↔ b ≠ 0 ∧ ∃ i : Fin 8, i.val < f.patLen.toNat ∧ f.pattern[i] = b := by
  have hmem : b ∈ f.pattern.toList.take f.patLen.toNat ↔ ∃ i : Fin 8, i.val < f.patLen.toNat ∧ f.pattern[i] = b := by
    rw [List.mem_take_iff_getElem]
    constructor
    · rintro ⟨i, hi, hb⟩
      have hlt : i < f.patLen.toNat ∧ i < 8 := by simpa using hi
      exact ⟨⟨i, hlt.2⟩, hlt.1, by simpa using hb⟩
    · rintro ⟨i, hi, hb⟩
      exact ⟨i, by simpa using hi, by simpa using hb⟩
  rw [← hmem]
  unfold RuleFields.patternList
  rw [List.mem_map]
  constructor
  · rintro ⟨x, hx, he⟩
    split at he
    · cases he
    · next hne =>
      cases he
      exact ⟨hne, hx⟩
  · rintro ⟨hne, hx⟩
    exact ⟨b, hx, if_neg hne⟩

theorem RuleFields.patternList_length (h : f.patLen.toNat ≤ 8) : f.patternList.length = f.patLen.toNat := by
  simp [RuleFields.patternList, h]

/-- The conditions of R64 that depend on the class of the entry. -/
theorem RuleFields.validFor_iff (cls : RuleClass) :
    f.validFor cls = true ↔
      (f.active.toNat ≤ 1 ∧ f.check.toNat ≤ 1 ∧ f.action.toNat ≤ 1 ∧ f.valuePresent.toNat ≤ 1) ∧
      (1 ≤ f.minLen.toNat ∧ f.minLen.toNat ≤ f.maxLen.toNat ∧ f.maxLen.toNat ≤ 48) ∧
      (f.patLen.toNat ≤ 8 ∧ f.patLen.toNat ≤ f.minLen.toNat) ∧
      (∀ b, some b ∈ f.patternList → cls.admits b = true) ∧
      (f.check = 1#8 ∨ f.valuePresent = 1#8 → cls = .numeric) ∧
      (f.check = 1#8 → f.minLen.toNat ≠ 1) ∧
      (f.valuePresent = 1#8 → f.start.toNat ≠ 0 ∧ 1 ≤ f.count.toNat ∧ f.count.toNat ≤ 6 ∧ f.scale.toNat ≤ 3) ∧
      (f.valuePresent = 1#8 → f.start.toNat + f.count.toNat - 1 ≤ f.minLen.toNat) ∧
      (f.valuePresent = 1#8 → f.check = 1#8 → f.start.toNat + f.count.toNat - 1 ≤ f.minLen.toNat - 1) ∧
      f.tag.toNat ≤ 15 := by
  have hall : (∀ e ∈ f.patternList, (match e with | none => true | some b => cls.admits b) = true) ↔
      ∀ b, some b ∈ f.patternList → cls.admits b = true := by
    refine ⟨fun h b hb => h (some b) hb, fun h e he => ?_⟩
    cases e with
    | none => rfl
    | some b => exact h b he
  rw [← hall]
  simp only [RuleFields.validFor, isChoice, Bool.and_eq_true, decide_eq_true_eq, List.all_eq_true, Bool.or_eq_true,
    Bool.not_eq_true', Bool.or_eq_false_iff, beq_eq_false_iff_ne, ne_eq]
  constructor
  · rintro ⟨⟨⟨⟨⟨⟨⟨⟨⟨⟨⟨⟨⟨⟨⟨h1, h2⟩, h3⟩, h4⟩, h5⟩, h6⟩, h7⟩, h8⟩, h9⟩, h10⟩, h11⟩, h12⟩, h13⟩, h14⟩, h15⟩, h16⟩
    refine ⟨⟨h1, h2, h3, h4⟩, ⟨h5, h9, h8⟩, ⟨h10, h11⟩, h12, ?_, ?_, ?_, ?_, ?_, h16⟩
    · rintro (h | h)
      · exact h13.resolve_left fun e => e.1 h
      · exact h13.resolve_left fun e => e.2 h
    · exact fun h => h14.resolve_left (not_not.mpr h)
    · intro h
      obtain ⟨⟨⟨⟨⟨hs, hc⟩, hc6⟩, hsc⟩, -⟩, -⟩ := h15.resolve_left (not_not.mpr h)
      exact ⟨by omega, hc, hc6, hsc⟩
    · intro h
      obtain ⟨⟨-, hend⟩, -⟩ := h15.resolve_left (not_not.mpr h)
      exact hend
    · intro h hcheck
      obtain ⟨-, hshort⟩ := h15.resolve_left (not_not.mpr h)
      exact hshort.resolve_left (not_not.mpr hcheck)
  · rintro ⟨⟨h1, h2, h3, h4⟩, ⟨h5, h9, h8⟩, ⟨h10, h11⟩, h12, h13, h14, hvalue, hend, hshort, h16⟩
    refine ⟨⟨⟨⟨⟨⟨⟨⟨⟨⟨⟨⟨⟨⟨⟨h1, h2⟩, h3⟩, h4⟩, h5⟩, by omega⟩, by omega⟩, h8⟩, h9⟩, h10⟩, h11⟩, h12⟩, ?_⟩, ?_⟩, ?_⟩, h16⟩
    · by_cases hc : f.check = 1#8 ∨ f.valuePresent = 1#8
      · exact .inr (h13 hc)
      · exact .inl (not_or.mp hc)
    · by_cases hc : f.check = 1#8
      · exact .inr (h14 hc)
      · exact .inl hc
    · by_cases hv : f.valuePresent = 1#8
      · obtain ⟨hs, hc, hc6, hsc⟩ := hvalue hv
        refine .inr ⟨⟨⟨⟨⟨by omega, hc⟩, hc6⟩, hsc⟩, hend hv⟩, ?_⟩
        by_cases hcheck : f.check = 1#8
        · exact .inr (hshort hv hcheck)
        · exact .inl hcheck
      · exact .inl hv

/-- What R64 asks of a pattern character, by the class byte. -/
theorem RuleFields.admits_iff {f : RuleFields} {cls : RuleClass} (hc : f.cls = cls.byte) (b : Byte) :
    cls.admits b = true ↔
      if f.cls = 0x4E#8 then 0x30 ≤ b.toNat ∧ b.toNat ≤ 0x39 else 0x20 ≤ b.toNat ∧ b.toNat ≤ 0x7E := by
  rw [hc]
  cases cls <;> simp [RuleClass.admits, RuleClass.byte, isDigit, isPrintable]

theorem RuleFields.numeric_iff {f : RuleFields} {cls : RuleClass} (hc : f.cls = cls.byte) :
    cls = .numeric ↔ f.cls = 0x4E#8 := by
  rw [hc]
  cases cls <;> decide

/-- The conditions of R64, once the class byte is known to name a class. -/
theorem RuleFields.acceptable_iff {f : RuleFields} {cls : RuleClass} (hc : f.cls = cls.byte) :
    f.Acceptable ↔ f.validFor cls = true := by
  have hclass : f.cls = 0x4E#8 ∨ f.cls = 0x41#8 ∨ f.cls = 0x2A#8 := by
    rw [hc]
    cases cls <;> decide
  have hpattern : (∀ b, some b ∈ f.patternList → cls.admits b = true) ↔
      ∀ i : Fin 8, i.val < f.patLen.toNat → f.pattern[i] ≠ 0#8 →
        if f.cls = 0x4E#8 then 0x30 ≤ f.pattern[i].toNat ∧ f.pattern[i].toNat ≤ 0x39
        else 0x20 ≤ f.pattern[i].toNat ∧ f.pattern[i].toNat ≤ 0x7E := by
    constructor
    · intro h i hi hne
      exact (RuleFields.admits_iff hc _).mp (h _ ((f.mem_patternList _).mpr ⟨hne, i, hi, rfl⟩))
    · intro h b hb
      obtain ⟨hne, i, hi, rfl⟩ := (f.mem_patternList b).mp hb
      exact (RuleFields.admits_iff hc _).mpr (h i hi hne)
  rw [RuleFields.validFor_iff, hpattern, RuleFields.numeric_iff hc]
  constructor
  · rintro ⟨⟨h1, -, h2, h3, h4⟩, hrest⟩
    exact ⟨⟨h1, h2, h3, h4⟩, hrest⟩
  · rintro ⟨⟨h1, h2, h3, h4⟩, hrest⟩
    exact ⟨⟨h1, hclass, h2, h3, h4⟩, hrest⟩

theorem RuleFields.store_eq_some {f : RuleFields} {r : CodeRule} :
    f.store = some r ↔ ∃ cls : RuleClass, f.cls = cls.byte ∧ f.validFor cls = true ∧ r = f.entry cls := by
  unfold RuleFields.store
  constructor
  · intro h
    split at h
    · cases h
    · next cls hcls =>
      split at h
      · next hv =>
        cases h
        exact ⟨cls, RuleClass.ofByte_eq_some.mp hcls, hv, rfl⟩
      · cases h
  · rintro ⟨cls, hcls, hv, rfl⟩
    simp only [RuleClass.ofByte_eq_some.mpr hcls, if_pos hv]

/-- An entry that R64 accepts is valid as held. -/
theorem RuleFields.entry_valid {f : RuleFields} {cls : RuleClass} (h : f.validFor cls = true) : (f.entry cls).Valid := by
  obtain ⟨-, ⟨hmin, hle, hmax⟩, ⟨hpat8, hpatmin⟩, hadmits, hnumeric, hlen1, hvalue, hend, hshort, -⟩ :=
    (f.validFor_iff cls).mp h
  have hlen : (f.entry cls).pattern.length = f.patLen.toNat := f.patternList_length hpat8
  refine ⟨hmin, hle, hmax, by omega, hlen.trans_le hpatmin, fun e he b hb => ?_, fun hc => ?_, fun hm => ?_,
    fun v hv => ?_⟩
  · rw [Option.mem_def.mp hb] at he
    exact hadmits b he
  · refine hnumeric (hc.imp (fun hm => by simpa [RuleFields.entry] using hm) fun hs => ?_)
    by_contra hne
    simp [RuleFields.entry, hne] at hs
  · have hcheck : f.check = 1#8 := by simpa [RuleFields.entry] using hm
    have hne := hlen1 hcheck
    show 2 ≤ f.minLen.toNat
    omega
  · have hv' : (if f.valuePresent == 1 then
        some { start := f.start.toNat, count := f.count.toNat, scale := f.scale.toNat : ValueField } else none) =
          some v := hv
    split at hv'
    · next hp =>
      cases hv'
      have hpresent : f.valuePresent = 1#8 := beq_iff_eq.mp hp
      obtain ⟨hs, hc, hc6, hsc⟩ := hvalue hpresent
      exact ⟨Nat.pos_of_ne_zero hs, hc, hc6, hsc, hend hpresent, fun hm => hshort hpresent (beq_iff_eq.mp hm)⟩
    · cases hv'

theorem RuleFields.store_valid {f : RuleFields} {r : CodeRule} (h : f.store = some r) : r.Valid := by
  obtain ⟨cls, -, hv, rfl⟩ := RuleFields.store_eq_some.mp h
  exact RuleFields.entry_valid hv

/-- The pattern of the entry stored reads back as sent, 0x00 beyond it. -/
theorem RuleFields.entry_patternBytes {f : RuleFields} (cls : RuleClass) (h : f.patLen.toNat ≤ 8) :
    (f.entry cls).patternBytes = List.ofFn fun i : Fin 8 => if i.val < f.patLen.toNat then f.pattern[i] else 0#8 := by
  have hnamed : (f.entry cls).pattern.map (fun e => match e with | none => (0 : Byte) | some b => b) =
      f.pattern.toList.take f.patLen.toNat := by
    have hid (b : Byte) :
        (match (if b = 0 then none else some b : Option Byte) with | none => (0 : Byte) | some b => b) = b := by
      by_cases hb : b = 0
      · rw [if_pos hb, hb]
      · rw [if_neg hb]
    show ((f.pattern.toList.take f.patLen.toNat).map _).map _ = _
    rw [List.map_map]
    exact (List.map_congr_left fun b _ => hid b).trans (List.map_id _)
  have hbytes : (f.entry cls).patternBytes =
      f.pattern.toList.take f.patLen.toNat ++ List.replicate (8 - f.patLen.toNat) 0 := by
    have hlen : (f.pattern.toList.take f.patLen.toNat).length = f.patLen.toNat := by simp [h]
    calc (f.entry cls).patternBytes
      _ = (f.entry cls).pattern.map (fun e => match e with | none => (0 : Byte) | some b => b) ++
            List.replicate (8 - ((f.entry cls).pattern.map
              (fun e => match e with | none => (0 : Byte) | some b => b)).length) 0 := rfl
      _ = _ := by rw [hnamed, hlen]
  rw [hbytes]
  refine List.ext_getElem (by simp; omega) fun i hi hi' => ?_
  rw [List.getElem_ofFn]
  by_cases hlt : i < f.patLen.toNat
  · rw [List.getElem_append_left (by simp; omega), if_pos hlt]
    simp
  · rw [List.getElem_append_right (by simp; omega), if_neg hlt]
    simp

/-- An entry that R64 accepts reads back as sent. -/
theorem RuleFields.entry_bytes {f : RuleFields} {cls : RuleClass} (hc : f.cls = cls.byte) (h : f.validFor cls = true) :
    (f.entry cls).bytes =
      [f.active, f.cls, f.minLen, f.maxLen, f.patLen] ++
        (List.ofFn fun i : Fin 8 => if i.val < f.patLen.toNat then f.pattern[i] else 0#8) ++
        [f.check, f.valuePresent] ++
        (if f.valuePresent = 1#8 then [f.start, f.count, f.scale] else [0#8, 0#8, 0#8]) ++ [f.action, f.tag] := by
  obtain ⟨⟨hactive, hcheck, haction, hpresent⟩, -, ⟨hpat8, -⟩, -, -, -, -, -, -, htag⟩ := (f.validFor_iff cls).mp h
  have hlen : (f.entry cls).pattern.length = f.patLen.toNat := f.patternList_length hpat8
  have htag16 : byteOf (f.entry cls).tag.val = f.tag := by
    have hmod : (f.entry cls).tag.val = f.tag.toNat := Nat.mod_eq_of_lt (by omega)
    rw [hmod, byteOf_toNat]
  have hvalue : (match (f.entry cls).value with
        | none => [0, 0, 0, 0]
        | some v => [1, byteOf v.start, byteOf v.count, byteOf v.scale]) =
      [f.valuePresent] ++ if f.valuePresent = 1#8 then [f.start, f.count, f.scale] else [0#8, 0#8, 0#8] := by
    by_cases hv : f.valuePresent = 1#8
    · simp [RuleFields.entry, hv, byteOf_toNat]
    · have hzero : f.valuePresent = 0#8 := BitVec.eq_of_toNat_eq (by
        have hne : f.valuePresent.toNat ≠ 1 := fun e => hv (BitVec.eq_of_toNat_eq e)
        show f.valuePresent.toNat = 0
        omega)
      simp [RuleFields.entry, hzero]
  calc (f.entry cls).bytes
    _ = [bitByte (f.active == 1), cls.byte, byteOf f.minLen.toNat, byteOf f.maxLen.toNat,
          byteOf (f.entry cls).pattern.length] ++ (f.entry cls).patternBytes ++ [bitByte (f.check == 1)] ++
          (match (f.entry cls).value with
            | none => [0, 0, 0, 0]
            | some v => [1, byteOf v.start, byteOf v.count, byteOf v.scale]) ++
          [bitByte (f.action == 1), byteOf (f.entry cls).tag.val] := rfl
    _ = _ := by
      rw [hvalue, hlen, htag16, RuleFields.entry_patternBytes cls hpat8, bitByte_beq_one hactive,
        bitByte_beq_one hcheck, bitByte_beq_one haction, ← hc, byteOf_toNat, byteOf_toNat, byteOf_toNat]
      simp

end Sys2Proof

namespace Sys2Proof.Machine

/-- Settles O7, by the class the class byte names. -/
theorem ruleAcceptedExactlyWhenValid : Obligations.RuleAcceptedExactlyWhenValid := by
  unfold Obligations.RuleAcceptedExactlyWhenValid
  refine fun f => ⟨⟨fun h => ?stored, fun h => ?accepted⟩, fun r hr => ?entry⟩
  case stored =>
    obtain ⟨r, hr⟩ := Option.isSome_iff_exists.mp h
    obtain ⟨cls, hc, hv, -⟩ := RuleFields.store_eq_some.mp hr
    exact (RuleFields.acceptable_iff hc).mpr hv
  case accepted =>
    obtain ⟨⟨-, hclass, -⟩, -⟩ := id h
    obtain ⟨cls, hcls⟩ := Option.isSome_iff_exists.mp ((RuleClass.ofByte_isSome f.cls).mpr hclass)
    have hc := RuleClass.ofByte_eq_some.mp hcls
    rw [RuleFields.store_eq_some.mpr ⟨cls, hc, (RuleFields.acceptable_iff hc).mp h, rfl⟩]
    rfl
  case entry =>
    refine ⟨RuleFields.store_valid hr, ?_⟩
    obtain ⟨cls, hc, hv, rfl⟩ := RuleFields.store_eq_some.mp hr
    exact RuleFields.entry_bytes hc hv

end Sys2Proof.Machine
end

section
/-!
PROOFS. What a step can do to the state, said once: a chain of changes, each of them an event of one lane, a rule written,
alarms taken, the lockdown latch set or cleared, a device reset, or a change of what no law of the lanes reads. A law that
each of these changes keeps is kept by every step.
-/

namespace Sys2Proof.Machine

/-! ### Events of a lane -/

/-- What a command can do to one lane. On a lane that is not ON the events of `quiet` do nothing; the others say what they
do in every lane state. -/
inductive LaneView.Event (rules : Vector CodeRule 16) (v : LaneView) : LaneView → Prop
  | same : Event rules v v
  | quiet {w : LaneView} (hon : v.ln.on = true) (h : v.Moves rules (fun _ => False) w) : Event rules v w
  | inhibitOff : Event rules v (v.setHostReason false)
  | counts (clear : Bool) : Event rules v (v.countsRequest clear).1
  | removeRecords (n : Nat) : Event rules v (v.removeRecords n)
  | windowExpiry : Event rules v v.windowExpiry
  | readSet : Event rules v v.readSet
  | storeSet (x : LaneSet) (hx : x.InRange) : Event rules v (v.storeSet x)
  | setPins (x : LanePins) : Event rules v (v.setPins x)
  | setCfg (hp : v.ln.powered = false) (x : LaneCfg) (hx : x.InRange) : Event rules v (v.setCfg x)
  | setKeymap (hp : v.ln.powered = false) (x : Vector KeyAttr 128) : Event rules v (v.setKeymap x)
  | powerOn : Event rules v v.powerOn.1
  | powerOff : Event rules v v.powerOff.1
  | pflTrip : Event rules v (if v.ln.powered then v.trip else v)
  | settleExpiry : Event rules v v.settleExpiry
  | hostRelease : Event rules v v.hostRelease.1
  | changeFlags (setList clearList : FlagSet) : Event rules v (v.changeFlags setList clearList)
  | clearFault : Event rules v v.clearFault
  | dsnChange (level : Sense) : Event rules v (v.dsnChange level)
  | stabilityExpiry : Event rules v v.stabilityExpiry
  | pulseExpiry : Event rules v v.pulseExpiry
  | docAssert : Event rules v v.docAssert
  | confirmExpiry : Event rules v v.confirmExpiry
  | openLongExpiry : Event rules v v.openLongExpiry
  | lockdownCut : Event rules v v.lockdownCut
  | sampleArrival (raw : BitVec 128) : Event rules v (v.sampleArrival raw)
  | typematicExpiry : Event rules v v.typematicExpiry

namespace LaneView.Moves

variable {rules : Vector CodeRule 16} {T : LanePart → Prop} {u v : LaneView}

/-- A chain may be allowed to touch more. -/
theorem mono {S : LanePart → Prop} (h : u.Moves rules T v) (hS : ∀ p, T p → S p) : u.Moves rules S v := by
  induction h with
  | refl => exact .refl
  | setPower h hT x ih => exact ih.setPower (hS _ hT) x
  | setCfg h hT x hx ih => exact ih.setCfg (hS _ hT) x hx
  | setKeymap h hT x ih => exact ih.setKeymap (hS _ hT) x
  | setKeys h hT x ih => exact ih.setKeys (hS _ hT) x
  | setDrawer h hT x ih => exact ih.setDrawer (hS _ hT) x
  | setSet h x hx ih => exact ih.setSet x hx
  | setPort h x hcmds hrx ih => exact ih.setPort x hcmds hrx
  | setFilter h x ih => exact ih.setFilter x
  | setLives h x ih => exact ih.setLives x
  | setReport h x ih => exact ih.setReport x
  | setChecker h x ih => exact ih.setChecker x
  | setPins h x ih => exact ih.setPins x
  | setCounters h x hx ih => exact ih.setCounters x hx
  | enqueue h b ht hb ih => exact ih.enqueue b ht hb
  | refuse h b ih => exact ih.refuse b
  | alarm h kind hk ih => exact ih.alarm kind hk
  | withoutHead h n ih => exact ih.withoutHead n

theorem removeRecords (h : u.Moves rules T v) (n : Nat) : u.Moves rules T (v.removeRecords n) := by
  rw [v.removeRecords_eq]
  exact .branch h ((h.withoutHead n).evalFlow _)

theorem windowStored (h : u.Moves rules T v) : u.Moves rules T v.windowStored := .branch (h.setFilter _) h

theorem inhibitStored (h : u.Moves rules T v) (old : LaneSet) : u.Moves rules T (v.inhibitStored old) :=
  .branch (h.setDrawerReason _) h

theorem modeStored (h : u.Moves rules T v) (old : LaneSet) : u.Moves rules T (v.modeStored old) := by
  unfold LaneView.modeStored
  split
  case h_1 => exact .branch h.startReport h
  case h_2 => exact h.setReport _
  all_goals exact h

theorem storeSet (h : u.Moves rules T v) {x : LaneSet} (hx : x.InRange) : u.Moves rules T (v.storeSet x) :=
  ((((h.setSet x hx).windowStored).inhibitStored _).modeStored _).evalFlow _

end LaneView.Moves

/-- Every event is a chain of moves. -/
theorem LaneView.Event.moves {rules : Vector CodeRule 16} {v w : LaneView} (h : v.Event rules w) :
    v.Moves rules (fun _ => True) w := by
  cases h with
  | same => exact .refl
  | quiet hon h => exact h.mono fun _ => False.elim
  | inhibitOff => exact .setReasons .refl _
  | counts clear => exact .countsRequest .refl clear
  | removeRecords n => exact .removeRecords .refl n
  | windowExpiry => exact .windowExpiry .refl
  | readSet => exact .evalFlow .refl _
  | storeSet x hx => exact .storeSet .refl hx
  | setPins x => exact .setPins .refl x
  | setCfg hp x hx => exact .setCfg .refl trivial x hx
  | setKeymap hp x => exact .setKeymap .refl trivial x
  | powerOn => exact .powerOn .refl trivial trivial trivial
  | powerOff => exact .powerOff .refl trivial trivial trivial
  | pflTrip => exact .pflTrip .refl trivial trivial trivial
  | settleExpiry => exact .settleExpiry .refl trivial trivial trivial
  | hostRelease => exact .hostRelease .refl trivial
  | changeFlags setList clearList => exact .setDrawer .refl trivial _
  | clearFault => exact .clearFault .refl trivial
  | dsnChange level => exact .dsnChange .refl trivial level
  | stabilityExpiry => exact .stabilityExpiry .refl trivial
  | pulseExpiry => exact .pulseExpiry .refl trivial
  | docAssert => exact .docAssert .refl trivial
  | confirmExpiry => exact .confirmExpiry .refl trivial
  | openLongExpiry => exact .openLongExpiry .refl trivial
  | lockdownCut => exact .lockdownCut .refl trivial
  | sampleArrival raw => exact .sampleArrival .refl trivial trivial raw
  | typematicExpiry => exact .typematicExpiry .refl trivial

namespace LaneView.Event

variable {rules : Vector CodeRule 16} {v : LaneView}

/-- An event heard on an ON lane alone. -/
theorem whenHeard {c : Prop} [Decidable c] {w : LaneView} (hc : c → v.ln.on = true)
    (h : v.Moves rules (fun _ => False) w) : v.Event rules (if c then w else v) := by
  split
  · next hh => exact .quiet (hc hh) h
  · exact .same

theorem whenOn {r : LaneView × Answer} (h : v.ln.on = true → v.Event rules r.1) :
    v.Event rules (Machine.whenOn v r).1 := by
  unfold Machine.whenOn
  split
  · next hon => exact h hon
  · exact .same

theorem whenInactive {r : LaneView × Answer} (h : v.ln.powered = false → v.Event rules r.1) :
    v.Event rules (Machine.whenInactive v r).1 := by
  unfold Machine.whenInactive
  split
  · exact .same
  · next hp => exact h (by simpa using hp)

theorem branchFst {α : Type} {c : Prop} [Decidable c] {p q : LaneView × α} (hp : v.Event rules p.1)
    (hq : v.Event rules q.1) : v.Event rules (if c then p else q).1 := by
  split
  · exact hp
  · exact hq

/-! The lane requests. -/

theorem serveLaneCfg (hp : v.ln.powered = false) (write : Byte) (f : LaneCfgFields) :
    v.Event rules (v.serveLaneCfg write f).1 :=
  .branchFst .same (.branchFst .same (.branchFst (.setCfg hp _ (laneCfg_store_inRange f)) .same))

theorem serveLaneSet (write : Byte) (f : LaneSetFields) : v.Event rules (v.serveLaneSet write f).1 :=
  .branchFst .same (.branchFst .readSet (.branchFst (.storeSet _ (laneSet_store_inRange f)) .same))

theorem changeKeymap (hp : v.ln.powered = false) (first count attr : Byte) :
    v.Event rules (v.changeKeymap first count attr).1 := by
  unfold LaneView.changeKeymap
  split
  · exact .same
  · exact .branchFst (.setKeymap hp _) .same

theorem servePower (value : Byte) : v.Event rules (v.servePower value).1 :=
  .branchFst .same (.branchFst .powerOn .powerOff)

theorem serveFlags (setList clearList : Byte) : v.Event rules (v.serveFlags setList clearList).1 :=
  .branchFst (.changeFlags _ _) .same

theorem serveInhibit (value : Byte) : v.Event rules (v.serveInhibit value).1 :=
  .branchFst .same (.branchFst (.whenOn fun hon => .quiet hon (.setReasons .refl _)) .inhibitOff)

theorem serveCounts (clear : Byte) : v.Event rules (v.serveCounts clear).1 := .branchFst (.counts _) .same

theorem serveCheck (action duration : Byte) : v.Event rules (v.serveCheck action duration).1 := by
  unfold LaneView.serveCheck
  refine .whenOn fun hon => ?_
  split
  · exact .quiet hon (.checkStart .refl _)
  · exact .quiet hon (.checkStop .refl)
  · exact .quiet hon (.checkInsert .refl)
  · exact .same

/-! The events that an ON lane alone hears. -/

theorem on_of_and {a b : Bool} (h : (a && b) = true) : a = true := (Bool.and_eq_true_iff.mp h).1

theorem srxByte (b : Byte) (e : Bool) : v.Event rules (v.srxByte rules b e) := by
  have h : v.Moves rules (fun _ => False) (v.srxByte rules b e) := .srxByte .refl b e
  cases hon : v.ln.on
  · rw [show v.srxByte rules b e = v by simp [LaneView.srxByte, hon]]
    exact .same
  · exact .quiet hon h

theorem frameCompletion : v.Event rules (v.frameCompletion rules) := by
  have h : v.Moves rules (fun _ => False) (v.frameCompletion rules) := .frameCompletion .refl
  cases hon : v.ln.on
  · have hsame : v.frameCompletion rules = v := by
      unfold LaneView.frameCompletion
      split <;> simp [hon]
    rw [hsame]
    exact .same
  · exact .quiet hon h

theorem gapExpiry : v.Event rules v.gapExpiry :=
  .whenHeard (fun h => on_of_and (on_of_and (on_of_and (on_of_and h)))) (.abortFrame .refl)

theorem srxChange (level : LineLevel) : v.Event rules (v.srxChange level) := by
  have h : v.Moves rules (fun _ => False) (v.srxChange level) := .srxChange .refl level
  cases hon : v.ln.on
  · rw [show v.srxChange level = v by simp [LaneView.srxChange, hon]]
    exact .same
  · exact .quiet hon h

theorem breakCharacter : v.Event rules v.breakCharacter := by
  have h : v.Moves rules (fun _ => False) v.breakCharacter := .breakCharacter .refl
  cases hon : v.ln.on
  · rw [show v.breakCharacter = v by simp [LaneView.breakCharacter, hon]]
    exact .same
  · exact .quiet hon h

theorem breakExpiry : v.Event rules v.breakExpiry := by
  have h : v.Moves rules (fun _ => False) v.breakExpiry := .breakExpiry .refl
  cases hon : v.ln.on
  · rw [show v.breakExpiry = v by simp [LaneView.breakExpiry, hon]]
    exact .same
  · exact .quiet hon h

theorem commandSent : v.Event rules v.commandSent := by
  have h : v.Moves rules (fun _ => False) v.commandSent := .commandSent .refl
  cases hon : v.ln.on
  · rw [show v.commandSent = v by simp [LaneView.commandSent, hon]]
    exact .same
  · exact .quiet hon h

theorem reportExpiry : v.Event rules v.reportExpiry := by
  have h : v.Moves rules (fun _ => False) v.reportExpiry := .reportExpiry .refl
  cases hon : v.ln.on
  · have hsame : v.reportExpiry = v := by
      unfold LaneView.reportExpiry
      split <;> simp [hon]
    rw [hsame]
    exact .same
  · exact .quiet hon h

theorem checkByteSent : v.Event rules v.checkByteSent := .whenHeard on_of_and (.setChecker .refl _)

theorem checkTimerExpiry : v.Event rules v.checkTimerExpiry :=
  .whenHeard (fun h => on_of_and (on_of_and h)) (.endCheck .refl _)

end LaneView.Event

end Sys2Proof.Machine
end

section
/-!
PROOFS. The steps of the part as chains of changes: every command is one, so a law that each change keeps is kept by every
step.
-/

namespace Sys2Proof.Machine

theorem LaneView.Event.serveTone {rules : Vector CodeRule 16} {v : LaneView} (tone : Byte) :
    v.Event rules (Machine.whenOn v (codeOnly (v.requestTone tone))).1 :=
  .whenOn fun hon => .quiet hon (.requestTone .refl _)

/-! ### Changes of the state -/

/-- The states that changes of these kinds lead to. -/
inductive State.Changes (s : State) : State → Prop
  | refl : Changes s s
  | outside {t u : State} (h : Changes s t) (hlanes : u.lanes = t.lanes) (hrules : u.rules = t.rules)
      (hfree : u.poolFree = t.poolFree) (halarms : u.alarms = t.alarms) (hlockdown : u.lockdown = t.lockdown) :
      Changes s u
  | lane {t : State} (h : Changes s t) (l : LaneId) {w : LaneView} (hw : (t.view l).Event t.rules w) :
      Changes s (t.put l w)
  | rule {t : State} (h : Changes s t) (i : RuleIdx) {r : CodeRule} (hr : r.Valid) :
      Changes s { t with rules := t.rules.set i r }
  | alarmsTaken {t : State} (h : Changes s t) (n : Nat) : Changes s { t with alarms := t.alarms.drop n }
  | unlock {t : State} (h : Changes s t) : Changes s { t with lockdown := false }
  | lockdown {t : State} (h : Changes s t) : Changes s t.lockdownEvent
  | reset {t : State} (h : Changes s t) : Changes s t.deviceReset

namespace State.Changes

variable {s t : State}

theorem branch {c : Prop} [Decidable c] {u : State} (ht : s.Changes t) (hu : s.Changes u) :
    s.Changes (if c then t else u) := by
  split
  · exact ht
  · exact hu

theorem onLane (h : s.Changes t) (l : LaneId) {f : LaneView → LaneView}
    (hf : ∀ v : LaneView, v.Event t.rules (f v)) : s.Changes (t.onLane l f) := h.lane l (hf _)

theorem laneEvent (h : s.Changes t) (l : LaneId) {f : LaneView → LaneView}
    (hf : ∀ v : LaneView, v.Event t.rules (f v)) : s.Changes (t.laneEvent l f) := h.branch (h.onLane l hf)

/-! Requests (R177). -/

theorem withLane (h : s.Changes t) (lane : Byte) {f : LaneId → State × Answer} (hf : ∀ l, s.Changes (f l).1) :
    s.Changes (t.withLane lane f).1 := by
  unfold State.withLane
  split
  · exact hf _
  · exact h

theorem answerLane (h : s.Changes t) (lane : Byte) {f : LaneView → LaneView × Answer}
    (hf : ∀ v : LaneView, v.Event t.rules (f v).1) : s.Changes (t.answerLane lane f).1 :=
  h.withLane lane fun l => h.lane l (hf _)

theorem serveStatus (h : s.Changes t) (lane : Byte) : s.Changes (t.serveStatus lane).1 := by
  unfold State.serveStatus
  split
  · exact h
  · exact h.answerLane lane fun _ => .same

theorem serveRule (h : s.Changes t) (index : Byte) (f : RuleFields) : s.Changes (t.serveRule index f).1 := by
  by_cases hi : index.toNat < 16
  · cases hr : f.store with
    | some r =>
      rw [State.serveRule, t.writeRule_store (i := ⟨index.toNat, hi⟩) rfl hr]
      exact h.rule _ (RuleFields.store_valid hr)
    | none =>
      rw [State.serveRule, t.writeRule_refused (.inr hr)]
      exact h
  · rw [State.serveRule, t.writeRule_refused (.inl (Nat.le_of_not_lt hi))]
    exact h

theorem serveRuleQ (h : s.Changes t) (index : Byte) : s.Changes (t.serveRuleQ index).1 := by
  unfold State.serveRuleQ
  split <;> exact h

theorem fetchFrom (h : s.Changes t) (l : LaneId) (n : Nat) : s.Changes (t.fetchFrom l n).1 :=
  (h.onLane l fun _ => .removeRecords n).outside rfl rfl rfl rfl rfl

theorem fetchAny (h : s.Changes t) (n : Nat) : s.Changes (t.fetchAny n).1 := by
  unfold State.fetchAny
  split
  · exact (h.alarmsTaken n).outside rfl rfl rfl rfl rfl
  · split
    · next g l _ =>
      have hmoved : s.Changes { t with pointers := t.pointers.set g l } := h.outside rfl rfl rfl rfl rfl
      exact hmoved.fetchFrom l n
    · exact h

theorem serveFetch (h : s.Changes t) (lane maximum : Byte) : s.Changes (t.serveFetch lane maximum).1 := by
  unfold State.serveFetch
  dsimp only
  split
  · exact h.fetchAny _
  · exact h.withLane lane fun l => h.fetchFrom l _

theorem serveUnlock (h : s.Changes t) : s.Changes t.serveUnlock.1 := by
  unfold State.serveUnlock
  split
  · exact h
  · exact h.unlock

theorem serve (h : s.Changes t) (r : Request) : s.Changes (t.serve r).1 := by
  cases r with
  | ident | restart => exact h.outside rfl rfl rfl rfl rfl
  | status lane => exact h.serveStatus lane
  | laneCfg lane write f =>
    exact h.answerLane lane fun _ => .whenInactive fun hp => .serveLaneCfg hp write f
  | laneSet lane write f => exact h.answerLane lane fun _ => .serveLaneSet write f
  | keymap lane first count attr =>
    exact h.answerLane lane fun _ => .whenInactive fun hp => .changeKeymap hp first count attr
  | rule index f => exact h.serveRule index f
  | ruleQ index => exact h.serveRuleQ index
  | power lane value => exact h.answerLane lane fun _ => .servePower value
  | fetch lane maximum => exact h.serveFetch lane maximum
  | release lane => exact h.answerLane lane fun _ => .hostRelease
  | flags lane setList clearList => exact h.answerLane lane fun _ => .serveFlags setList clearList
  | inhibit lane value => exact h.answerLane lane fun _ => .serveInhibit value
  | tone lane tone => exact h.answerLane lane fun _ => .serveTone tone
  | counts lane clear => exact h.answerLane lane fun _ => .serveCounts clear
  | check lane action duration => exact h.answerLane lane fun _ => .serveCheck action duration
  | unlock => exact h.serveUnlock
  | clrFault lane => exact h.answerLane lane fun _ => .clearFault

theorem takeRequest (h : s.Changes t) (kind tag : Byte) (parsed : Except ReplyCode Request) :
    s.Changes (t.takeRequest kind tag parsed) := by
  have hcounted : s.Changes t.countLinkError := h.outside rfl rfl rfl rfl rfl
  have hserved : s.Changes (t.serveParsed parsed).1 := by
    cases parsed with
    | ok r => exact h.serve r
    | error code => exact h
  exact h.branch (hcounted.branch (h.branch (hserved.outside rfl rfl rfl rfl rfl)))

/-! The host link receiver (R175, R176). -/

theorem setHostRx (h : s.Changes t) (rx : HostRx) : s.Changes (t.setHostRx rx) := h.outside rfl rfl rfl rfl rfl

theorem discardFrame (h : s.Changes t) : s.Changes t.discardFrame := h.outside rfl rfl rfl rfl rfl

theorem completeRequest (h : s.Changes t) : s.Changes t.completeRequest := by
  unfold State.completeRequest
  split
  · exact (h.setHostRx .reset).takeRequest _ _ _
  · exact h.setHostRx .reset

theorem hostByte (h : s.Changes t) (b : Byte) : s.Changes (t.hostByte b) := by
  unfold State.hostByte
  dsimp only
  split
  case h_1 => exact .branch (h.setHostRx _) h
  case h_3 => exact .branch (h.setHostRx _) h.discardFrame
  case h_6 => exact .branch h.completeRequest h.discardFrame
  all_goals exact h.setHostRx _

/-! Device reset and LKD (R127, R188). -/

theorem endReset (h : s.Changes t) : s.Changes t.endReset :=
  .branch (lockdown (h.outside rfl rfl rfl rfl rfl)) (h.outside rfl rfl rfl rfl rfl)

end State.Changes

/-- Every command is a chain of changes. -/
theorem exec_changes (s : State) (c : Instr) : ∃ t, exec c s = .next t ∧ s.Changes t := by
  have h : s.Changes s := .refl
  cases c with
  | ident | statusLane | statusDevice | laneCfgRead | laneCfgWrite | laneSetRead | laneSetWrite | keymap | rule | ruleQ
  | powerOn | powerOff | fetchAny | fetchLane | release | flags | inhibitOn | inhibitOff | tone | counts | checkStart
  | checkStop | checkInsert | unlock | clrFault | restart => exact ⟨_, rfl, h.takeRequest _ _ _⟩
  | hostByteArrival byte stopError => exact ⟨_, rfl, h.branch (.branch (h.branch h.discardFrame) (h.hostByte byte))⟩
  | hostGapExpiry => exact ⟨_, rfl, h.discardFrame.branch h⟩
  | replySent => exact ⟨_, rfl, h.branch (h.outside rfl rfl rfl rfl rfl)⟩
  | powerOnReset | rstAssert => exact ⟨_, rfl, h.reset.outside rfl rfl rfl rfl rfl⟩
  | restartReset =>
    have hreset : s.Changes { s.deviceReset with resetSource := .restart } := h.reset.outside rfl rfl rfl rfl rfl
    exact ⟨_, rfl, hreset.endReset.branch h⟩
  | powerOnResetEnd rate1 rate0 =>
    have hsampled : s.Changes (State.sampleStraps { s with porHold := false } rate1 rate0) :=
      h.outside rfl rfl rfl rfl rfl
    exact ⟨_, rfl, h.branch (hsampled.branch hsampled.endReset)⟩
  | rstRelease rate1 rate0 =>
    have hsampled : s.Changes (State.sampleStraps { s with rstAsserted := false } rate1 rate0) :=
      h.outside rfl rfl rfl rfl rfl
    exact ⟨_, rfl, h.branch (hsampled.branch hsampled.endReset)⟩
  | lkdAssert => exact ⟨_, rfl, .branch (h.outside rfl rfl rfl rfl rfl) (.lockdown (h.outside rfl rfl rfl rfl rfl))⟩
  | lkdDeassert => exact ⟨_, rfl, .branch (h.outside rfl rfl rfl rfl rfl) (h.outside rfl rfl rfl rfl rfl)⟩
  | pflAssert lane => exact ⟨_, rfl, (h.onLane lane fun _ => .setPins _).laneEvent lane fun _ => .pflTrip⟩
  | pflDeassert lane => exact ⟨_, rfl, h.onLane lane fun _ => .setPins _⟩
  | srxLevelChange lane level =>
    exact ⟨_, rfl, h.branch ((h.onLane lane fun _ => .setPins _).laneEvent lane fun _ => .srxChange level)⟩
  | dsnChange lane level =>
    exact ⟨_, rfl, h.branch ((h.onLane lane fun _ => .setPins _).laneEvent lane fun _ => .dsnChange level)⟩
  | settleExpiry lane => exact ⟨_, rfl, h.laneEvent lane fun _ => .settleExpiry⟩
  | sampleArrival lane raw => exact ⟨_, rfl, h.laneEvent lane fun _ => .sampleArrival raw⟩
  | typematicExpiry lane => exact ⟨_, rfl, h.laneEvent lane fun _ => .typematicExpiry⟩
  | scannerByteArrival lane byte stopError | checkByteArrival lane byte stopError =>
    exact ⟨_, rfl, h.laneEvent lane fun _ => .srxByte byte stopError⟩
  | frameCompletion lane => exact ⟨_, rfl, h.laneEvent lane fun _ => .frameCompletion⟩
  | scannerGapExpiry lane => exact ⟨_, rfl, h.laneEvent lane fun _ => .gapExpiry⟩
  | breakCharacter lane => exact ⟨_, rfl, h.laneEvent lane fun _ => .breakCharacter⟩
  | breakTimerExpiry lane => exact ⟨_, rfl, h.laneEvent lane fun _ => .breakExpiry⟩
  | commandSent lane => exact ⟨_, rfl, h.laneEvent lane fun _ => .commandSent⟩
  | senseStabilityExpiry lane => exact ⟨_, rfl, h.laneEvent lane fun _ => .stabilityExpiry⟩
  | pulseExpiry lane => exact ⟨_, rfl, h.laneEvent lane fun _ => .pulseExpiry⟩
  | docAssert lane => exact ⟨_, rfl, h.laneEvent lane fun _ => .docAssert⟩
  | confirmExpiry lane => exact ⟨_, rfl, h.laneEvent lane fun _ => .confirmExpiry⟩
  | openLongExpiry lane => exact ⟨_, rfl, h.laneEvent lane fun _ => .openLongExpiry⟩
  | reportTimerExpiry lane => exact ⟨_, rfl, h.laneEvent lane fun _ => .reportExpiry⟩
  | duplicateWindowExpiry lane => exact ⟨_, rfl, h.laneEvent lane fun _ => .windowExpiry⟩
  | checkByteSent lane => exact ⟨_, rfl, h.laneEvent lane fun _ => .checkByteSent⟩
  | checkTimerExpiry lane => exact ⟨_, rfl, h.laneEvent lane fun _ => .checkTimerExpiry⟩

/-- So is every step, the command taken or a millisecond. -/
theorem step_changes {s t : State} (hstep : step s = .next t) : s.Changes t := by
  have h : s.Changes s := .refl
  cases hp : s.pending with
  | nil =>
    rw [step_nil s hp] at hstep
    cases hstep
    exact h.branch (h.outside rfl rfl rfl rfl rfl)
  | cons c rest =>
    obtain ⟨u, hexec, hu⟩ := exec_changes (s.withRest rest) c
    rw [step_cons s c rest hp, hexec] at hstep
    cases hstep
    have hrest : s.Changes (s.withRest rest) := h.outside rfl rfl rfl rfl rfl
    clear hexec
    induction hu with
    | refl => exact hrest
    | outside hu hlanes hrules hfree halarms hlockdown ih => exact ih.outside hlanes hrules hfree halarms hlockdown
    | lane hu l hw ih => exact ih.lane l hw
    | rule hu i hr ih => exact ih.rule i hr
    | alarmsTaken hu n ih => exact ih.alarmsTaken n
    | unlock hu ih => exact ih.unlock
    | lockdown hu ih => exact ih.lockdown
    | reset hu ih => exact ih.reset

/-- A law of the part that every change keeps. The lockdown event is left to `State.Kept.lockdown`. -/
structure State.Kept (P : State → Prop) : Prop where
  outside : ∀ {s t : State}, P s → t.lanes = s.lanes → t.rules = s.rules → t.poolFree = s.poolFree →
    t.alarms = s.alarms → t.lockdown = s.lockdown → P t
  lane : ∀ {s : State}, P s → ∀ (l : LaneId) {w : LaneView}, (s.view l).Event s.rules w → P (s.put l w)
  rule : ∀ {s : State}, P s → ∀ (i : RuleIdx) {r : CodeRule}, r.Valid → P { s with rules := s.rules.set i r }
  alarmsTaken : ∀ {s : State}, P s → ∀ n : Nat, P { s with alarms := s.alarms.drop n }
  unlock : ∀ {s : State}, P s → P { s with lockdown := false }
  lockdown : ∀ {s : State}, P s → P s.lockdownEvent
  reset : ∀ s : State, P s.deviceReset

theorem State.Kept.step {P : State → Prop} (hP : State.Kept P) {s t : State} (h : P s)
    (hstep : Machine.step s = .next t) : P t := by
  have ht := step_changes hstep
  clear hstep
  induction ht with
  | refl => exact h
  | outside ht hlanes hrules hfree halarms hlockdown ih => exact hP.outside ih hlanes hrules hfree halarms hlockdown
  | lane ht l hw ih => exact hP.lane ih l hw
  | rule ht i hr ih => exact hP.rule ih i hr
  | alarmsTaken ht n ih => exact hP.alarmsTaken ih n
  | unlock ht ih => exact hP.unlock ih
  | lockdown ht ih => exact hP.lockdown ih
  | reset ht ih => exact hP.reset _

/-- The state as the latch is set and the alarm raised, before the lanes (R127). -/
def State.latched (s : State) : State :=
  { s with lockdown := true, alarms := raiseAlarm s.timeBase .lockdown none s.alarms, attn := true }

/-- A law that the latch and the events of lanes keep is kept by the lockdown event. -/
theorem State.lockdownEvent_keeps {P : State → Prop} {s : State} (h : P s.latched)
    (hlane : ∀ {t : State}, P t → ∀ l : LaneId, P (t.onLane l LaneView.lockdownCut)) : P s.lockdownEvent := by
  have hlanes (ls : List LaneId) {t : State} (ht : P t) :
      P (ls.foldl (fun t l => t.onLane l LaneView.lockdownCut) t) := by
    induction ls generalizing t with
    | nil => exact ht
    | cons l ls ih => exact ih (hlane ht l)
  exact hlanes _ h

end Sys2Proof.Machine
end

section
/-!
PROOFS. The laws that every move keeps, kept by every step: the lane queues and the pool (R85 to R97), the alarm queue
(R148, R149), the rule table and the SCAN records (R63, R87), settings, counters, command queues and the host link.
-/

namespace Sys2Proof.Machine

/-! ### Laws of each lane alone -/

theorem State.deviceReset_lanes (s : State) (l : LaneId) : s.deviceReset.lanes[l] = s.lanes[l].deviceReset := by
  simp [State.deviceReset]

/-- A law of each lane in a state with one lane put back. -/
theorem State.put_forall {P : LaneId → Lane → Prop} {s : State} (h : ∀ l : LaneId, P l s.lanes[l]) {l : LaneId}
    {v : LaneView} (hv : P l v.ln) : ∀ k : LaneId, P k (s.put l v).lanes[k] := by
  intro k
  by_cases hk : k = l
  · subst hk
    rw [State.put_lanes_self]
    exact hv
  · rw [State.put_lanes_other s l k v hk]
    exact h k

/-- A law of each lane that the events of the lane keep, and that holds at device reset, is kept by every change. -/
theorem State.kept_of_lanes {P : LaneId → Lane → Prop}
    (hevent : ∀ {rules : Vector CodeRule 16} {v w : LaneView}, v.Event rules w → P v.id v.ln → P v.id w.ln)
    (hreset : ∀ (l : LaneId) (d : Lane), P l d.deviceReset) : State.Kept fun s => ∀ l : LaneId, P l s.lanes[l] where
  outside h hlanes _ _ _ _ := by
    rw [hlanes]
    exact h
  lane h l _ hw := State.put_forall h (hevent hw (h l))
  rule h _ _ _ := h
  alarmsTaken h _ := h
  unlock h := h
  lockdown h :=
    State.lockdownEvent_keeps (P := fun t => ∀ l : LaneId, P l t.lanes[l]) h fun {t} ht l =>
      State.put_forall (P := P) ht (hevent (rules := t.rules) (v := t.view l) .lockdownCut (ht l))
  reset s l := by
    rw [s.deviceReset_lanes]
    exact hreset l _

theorem Lane.reset_queueLaw (l : LaneId) : Lane.reset.QueueLaw l :=
  ⟨Nat.zero_le _, fun i => i.elim0, fun i => i.elim0, fun _ hr => (List.not_mem_nil hr).elim, Nat.zero_le _⟩

/-- Settles O55: the queue law is a law of each lane, and every event of a lane is a chain of moves that keep it. -/
theorem laneQueuesStayInOrder : Obligations.LaneQueuesStayInOrder := by
  unfold Obligations.LaneQueuesStayInOrder
  intro s t h hstep
  have hkept : State.Kept State.QueueLaw :=
    State.kept_of_lanes (P := fun l d => d.QueueLaw l)
      (fun hw hv => by have hlaw := hw.moves.queueLaw hv; rwa [hw.moves.outside_eq.1] at hlaw)
      (fun l _ => Lane.reset_queueLaw l)
  exact hkept.step h hstep

/-! ### The pool (R97) -/

/-- One entry of a list replaced moves its sum by that entry. -/
theorem sum_map_set {α : Type} (f : α → Nat) (xs : List α) {i : Nat} (hi : i < xs.length) (a : α) :
    ((xs.set i a).map f).sum + f xs[i] = (xs.map f).sum + f a := by
  induction xs generalizing i with
  | nil => exact absurd hi (Nat.not_lt_zero i)
  | cons x xs ih =>
    cases i with
    | zero =>
      simp only [List.set_cons_zero, List.map_cons, List.sum_cons, List.getElem_cons_zero]
      omega
    | succ i =>
      have hrest := ih (Nat.lt_of_succ_lt_succ hi)
      simp only [List.set_cons_succ, List.map_cons, List.sum_cons, List.getElem_cons_succ]
      omega

/-- The slots held in all the lanes. -/
def State.slotsHeld (s : State) : Nat := (s.lanes.toList.map fun d => slotCount d.queue.records).sum

theorem State.put_slotsHeld (s : State) (l : LaneId) (v : LaneView) :
    (s.put l v).slotsHeld + slotCount s.lanes[l].queue.records = s.slotsHeld + slotCount v.ln.queue.records := by
  have hset := sum_map_set (fun d => slotCount d.queue.records) s.lanes.toList (i := l.val) (by simp) v.ln
  have hlist : (s.put l v).lanes.toList = s.lanes.toList.set l.val v.ln :=
    Vector.toList_set (h := l.isLt)
  rw [State.slotsHeld, hlist]
  exact hset

theorem State.PoolLaw.put {s : State} (h : s.PoolLaw) {rules : Vector CodeRule 16} {T : LanePart → Prop} {l : LaneId}
    {v : LaneView} (hv : (s.view l).Moves rules T v) : (s.put l v).PoolLaw := by
  obtain ⟨hheld, htotal⟩ := h
  obtain ⟨hv_held, hv_total⟩ := hv.slots_kept (hheld l)
  have hput := s.put_slotsHeld l v
  refine ⟨State.put_forall (P := fun _ d => d.queue.held = slotCount d.queue.records) hheld hv_held, ?_⟩
  have hfree : v.free + slotCount v.ln.queue.records = s.poolFree + slotCount s.lanes[l].queue.records := hv_total
  have hsum : s.poolFree + s.slotsHeld = Config.poolSize := htotal
  have hgoal : v.free + (s.put l v).slotsHeld = Config.poolSize := by omega
  exact hgoal

theorem State.deviceReset_poolLaw (s : State) : s.deviceReset.PoolLaw := by
  refine ⟨fun l => ?_, ?_⟩
  · rw [s.deviceReset_lanes]
    rfl
  · have hzero : s.deviceReset.slotsHeld = 0 := by
      refine List.sum_eq_zero fun n hn => ?_
      obtain ⟨d, hd, rfl⟩ := List.mem_map.mp hn
      obtain ⟨i, hi, rfl⟩ := List.getElem_of_mem hd
      rw [Vector.getElem_toList, show s.deviceReset.lanes[i] = _ from s.deviceReset_lanes ⟨i, by simpa using hi⟩]
      rfl
    have hsum : s.deviceReset.poolFree + s.deviceReset.slotsHeld = Config.poolSize := by
      rw [hzero]
      rfl
    exact hsum

/-- Settles O54: slots move between the pool and one lane at a time, one with each SCAN and REJECT record. -/
theorem codeSlotsAreConserved : Obligations.CodeSlotsAreConserved := by
  unfold Obligations.CodeSlotsAreConserved
  intro s t h hstep
  have hkept : State.Kept State.PoolLaw :=
    { outside := fun h hlanes _ hfree _ _ => by
        rw [State.PoolLaw, hlanes, hfree]
        exact h
      lane := fun h l _ hw => h.put hw.moves
      rule := fun h _ _ _ => h
      alarmsTaken := fun h _ => h
      unlock := fun h => h
      lockdown := fun h => State.lockdownEvent_keeps (P := State.PoolLaw) h fun {t} ht l =>
        ht.put (LaneView.Event.lockdownCut (rules := t.rules)).moves
      reset := State.deviceReset_poolLaw }
  exact hkept.step h hstep

/-! ### Alarms (R148, R149) -/

theorem raiseAlarm_new {now : Time} {kind : AlarmKind} {lane : Option LaneId} {alarms : List Alarm}
    (h : ∀ a ∈ alarms, ¬(a.kind = kind ∧ a.lane = lane)) :
    raiseAlarm now kind lane alarms =
      alarms ++ [{ kind := kind, lane := lane, first := now, last := now, repeats := 1 }] := by
  induction alarms with
  | nil => rfl
  | cons a rest ih =>
    obtain ⟨ha, hrest⟩ := List.forall_mem_cons.mp h
    rw [raiseAlarm, if_neg ha, ih hrest, List.cons_append]

theorem raiseAlarm_merge {now : Time} {kind : AlarmKind} {lane : Option LaneId} {before rest : List Alarm} {a : Alarm}
    (hkind : a.kind = kind) (hlane : a.lane = lane) (h : ∀ x ∈ before, ¬(x.kind = kind ∧ x.lane = lane)) :
    raiseAlarm now kind lane (before ++ a :: rest) =
      before ++ { a with last := now, repeats := bump8 a.repeats } :: rest := by
  induction before with
  | nil => rw [List.nil_append, raiseAlarm, if_pos ⟨hkind, hlane⟩, List.nil_append]
  | cons x before ih =>
    obtain ⟨hx, hbefore⟩ := List.forall_mem_cons.mp h
    rw [List.cons_append, raiseAlarm, if_neg hx, ih hbefore, List.cons_append]

/-- Settles O46: where an alarm goes, by the alarms before it; then the law, which moves of one lane and the LOCKDOWN alarm
keep. -/
theorem alarmsMergeAndStayMerged : Obligations.AlarmsMergeAndStayMerged := by
  unfold Obligations.AlarmsMergeAndStayMerged
  refine ⟨fun now kind lane alarms => ⟨raiseAlarm_new, ?merge⟩, fun s t h hstep => ?kept⟩
  case merge =>
    rintro before a rest rfl hkind hlane hbefore
    exact raiseAlarm_merge hkind hlane hbefore
  case kept =>
    have hkept : State.Kept State.AlarmLaw :=
      { outside := fun h _ _ _ halarms _ => by
          rw [State.AlarmLaw, halarms]
          exact h
        lane := fun h _ _ hw => hw.moves.alarmsMerged h
        rule := fun h _ _ _ => h
        alarmsTaken := fun h n => AlarmsMerged.drop h n
        unlock := fun h => h
        lockdown := fun {s} h => by
          have hlatched : s.latched.AlarmLaw := AlarmsMerged.raise h s.timeBase ⟨fun _ => rfl, fun _ => rfl⟩
          exact State.lockdownEvent_keeps (P := State.AlarmLaw) hlatched fun {t} ht l =>
            (LaneView.Event.lockdownCut (rules := t.rules)).moves.alarmsMerged ht
        reset := fun s => ⟨List.nodup_nil, fun a ha => (List.not_mem_nil ha).elim, Nat.zero_le _⟩ }
    exact hkept.step h hstep

/-! ### Rules, receive assemblies and SCAN records (R63, R87) -/

theorem CodeRule.default_valid (i : RuleIdx) : State.reset.rules[i].Valid := by
  have hrule : State.reset.rules[i] = CodeRule.reset := by simp [State.reset]
  rw [hrule]
  exact ⟨by decide, by decide, by decide, by decide, by decide, nofun, by decide, by decide, nofun⟩

theorem State.put_scanLaw {s : State} (h : s.ScanLaw) {T : LanePart → Prop} {l : LaneId} {v : LaneView}
    (hv : (s.view l).Moves s.rules T v) : (s.put l v).ScanLaw := by
  obtain ⟨hrules, hlanes⟩ := h
  obtain ⟨hrx, hrecords⟩ := hlanes l
  exact ⟨hrules, State.put_forall (P := fun _ d => d.port.rx.Law ∧ ∀ r ∈ d.queue.records, r.body.sound) hlanes
    ⟨hv.rx_law hrx, hv.records_sound hrules hrx hrecords⟩⟩

theorem Vector.forall_set {P : CodeRule → Prop} {rules : Vector CodeRule 16} (h : ∀ i : RuleIdx, P rules[i]) (i : RuleIdx)
    {r : CodeRule} (hr : P r) : ∀ k : RuleIdx, P (rules.set i r)[k] := by
  intro k
  by_cases hk : i.val = k.val
  · rw [Fin.getElem_fin, Vector.getElem_set, if_pos hk]
    exact hr
  · rw [Fin.getElem_fin, Vector.getElem_set, if_neg hk]
    exact h k

/-- Settles O59: a rule is stored valid, the receiver keeps its assembly in order, and a code that passes makes a sound
record. -/
theorem scannedCodesAreSound : Obligations.ScannedCodesAreSound := by
  unfold Obligations.ScannedCodesAreSound
  intro s t h hstep
  have hkept : State.Kept State.ScanLaw :=
    { outside := fun h hlanes hrules _ _ _ => by
        rw [State.ScanLaw, hlanes, hrules]
        exact h
      lane := fun h _ _ hw => State.put_scanLaw h hw.moves
      rule := fun ⟨hrules, hlanes⟩ i _ hr => ⟨Vector.forall_set hrules i hr, hlanes⟩
      alarmsTaken := fun h _ => h
      unlock := fun h => h
      lockdown := fun h => State.lockdownEvent_keeps (P := State.ScanLaw) h fun ht _ =>
        State.put_scanLaw ht LaneView.Event.lockdownCut.moves
      reset := fun s => ⟨CodeRule.default_valid, fun l => by
        rw [s.deviceReset_lanes]
        exact ⟨Receiver.Law.reset, fun _ hr => (List.not_mem_nil hr).elim⟩⟩ }
  exact hkept.step h hstep

end Sys2Proof.Machine
end

section
/-!
PROOFS. What a command reaches outside its lane: requests as rows of the table and as they are served, the host link, and
what stays as it is while the part is held in reset (R177, R188).
-/

namespace Sys2Proof.Machine

/-! ### Request rows and the lane they name -/

/-- The lane field of a request. -/
def Request.laneByte : Request → Option Byte
  | .status lane | .laneCfg lane _ _ | .laneSet lane _ _ | .keymap lane _ _ _ | .power lane _ | .fetch lane _
  | .release lane | .flags lane _ _ | .inhibit lane _ | .tone lane _ | .counts lane _ | .check lane _ _
  | .clrFault lane => some lane
  | .ident | .rule _ _ | .ruleQ _ | .unlock | .restart => none

theorem laneOfByte_eq_some {b : Byte} {l : LaneId} : laneOfByte b = some l ↔ b.toNat = l.val := by
  unfold laneOfByte
  split
  · simp [Fin.ext_iff]
  · have := l.isLt
    simp
    omega

/-- A request row is a request of the host, and names the lane its lane field names. -/
theorem exec_isRequest {c : Instr} (h : isRequest c = true) :
    ∃ tag r, (∀ s, exec c s = .next (s.request tag r)) ∧ laneNamed c = r.laneByte.bind laneOfByte := by
  cases c with
  | ident | statusLane | statusDevice | laneCfgRead | laneCfgWrite | laneSetRead | laneSetWrite | keymap | rule | ruleQ
  | powerOn | powerOff | fetchAny | fetchLane | release | flags | inhibitOn | inhibitOff | tone | counts | checkStart
  | checkStop | checkInsert | unlock | clrFault | restart => exact ⟨_, _, fun _ => rfl, rfl⟩
  | _ => cases h

/-- A request that names a lane acts on that lane, and a FETCH on ATTN besides. -/
theorem State.serve_lane (s : State) {r : Request} {b : Byte} {l : LaneId} (hb : r.laneByte = some b)
    (hl : b.toNat = l.val) : ∃ v attn, (s.serve r).1 = { s.put l v with attn := attn } := by
  have hanswer (f : LaneView → LaneView × Answer) :
      ∃ v attn, (s.answerLane b f).1 = { s.put l v with attn := attn } := by
    rw [s.answerLane_lane b l f hl]
    exact ⟨_, _, rfl⟩
  have hany := lane_byte_ne_any b l hl
  cases r with
  | ident | rule | ruleQ | unlock | restart => cases hb
  | status =>
    cases hb
    rw [State.serve, State.serveStatus, if_neg hany]
    exact hanswer _
  | fetch lane maximum =>
    cases hb
    have hlt : b.toNat < 8 := hl ▸ l.isLt
    have heq : (⟨b.toNat, hlt⟩ : LaneId) = l := Fin.ext hl
    rw [State.serve, State.serveFetch, if_neg hany, State.withLane, dif_pos hlt, heq]
    exact ⟨_, _, rfl⟩
  | _ =>
    cases hb
    exact hanswer _

/-! The lane requests, as their lanes answer them. -/

section

variable (s : State) (lane : Byte)

theorem State.serve_laneCfg (write : Byte) (f : LaneCfgFields) :
    s.serve (.laneCfg lane write f) = s.answerLane lane fun v => whenInactive v (v.serveLaneCfg write f) := rfl
theorem State.serve_laneSet (write : Byte) (f : LaneSetFields) :
    s.serve (.laneSet lane write f) = s.answerLane lane fun v => v.serveLaneSet write f := rfl
theorem State.serve_keymap (first count attr : Byte) :
    s.serve (.keymap lane first count attr) =
      s.answerLane lane fun v => whenInactive v (codeOnly (v.changeKeymap first count attr)) := rfl
theorem State.serve_power (value : Byte) :
    s.serve (.power lane value) = s.answerLane lane fun v => v.servePower value := rfl
theorem State.serve_release : s.serve (.release lane) = s.answerLane lane fun v => v.serveRelease := rfl
theorem State.serve_flags (setList clearList : Byte) :
    s.serve (.flags lane setList clearList) = s.answerLane lane fun v => v.serveFlags setList clearList := rfl
theorem State.serve_inhibit (value : Byte) :
    s.serve (.inhibit lane value) = s.answerLane lane fun v => v.serveInhibit value := rfl
theorem State.serve_tone (tone : Byte) :
    s.serve (.tone lane tone) = s.answerLane lane fun v => whenOn v (codeOnly (v.requestTone tone)) := rfl
theorem State.serve_counts (clear : Byte) :
    s.serve (.counts lane clear) = s.answerLane lane fun v => v.serveCounts clear := rfl
theorem State.serve_check (action duration : Byte) :
    s.serve (.check lane action duration) = s.answerLane lane fun v => v.serveCheck action duration := rfl
theorem State.serve_clrFault :
    s.serve (.clrFault lane) = s.answerLane lane fun v => (v.clearFault, .only .done) := rfl

end

theorem RequestKind.byte_ne_release {k : RequestKind} (h : k ≠ .release) : k.byte ≠ 0x0A#8 := by
  revert h
  cases k <;> decide

/-- The reply to a RELEASE carries a failing set after every code (R114, R181). -/
theorem State.pushReply_release (s : State) (tag : Byte) (a : Answer) :
    s.pushReply (replyTo RequestKind.release.byte tag a) =
      s.answered 0x8A tag a.code (if a.body = [] then [0] else a.body) := by
  simp [State.pushReply, State.answered, replyTo, RequestKind.byte]

/-- A lane request taken: its lane is put back, and its answer joins the reply buffers. -/
theorem State.request_lane (s : State) (k : RequestKind) (tag : Byte) {r : Request} {lane : Byte} {l : LaneId}
    {f : LaneView → LaneView × Answer} (hs : s.ready) (hserve : s.serve r = s.answerLane lane f) (hk : r.kind = k)
    (hl : lane.toNat = l.val) (hne : k ≠ .release := by decide) :
    s.request tag r =
      (s.put l (f (s.view l)).1).answered (k.byte ||| 0x80) tag (f (s.view l)).2.code (f (s.view l)).2.body := by
  rw [s.request_ready tag r hs, hserve, s.answerLane_lane lane l f hl, hk]
  exact State.pushReply_answer _ _ tag _ (RequestKind.byte_ne_release hne)

/-- A lane request whose answer leaves the view as it was changes nothing but the reply buffers. -/
theorem State.request_lane_same (s : State) (k : RequestKind) (tag : Byte) {r : Request} {lane : Byte} {l : LaneId}
    {f : LaneView → LaneView × Answer} (hs : s.ready) (hserve : s.serve r = s.answerLane lane f) (hk : r.kind = k)
    (hl : lane.toNat = l.val) {a : Answer} (hf : f (s.view l) = (s.view l, a)) (hne : k ≠ .release := by decide) :
    s.request tag r = s.answered (k.byte ||| 0x80) tag a.code a.body := by
  rw [s.request_lane k tag hs hserve hk hl hne, hf, s.put_view]

/-! ### What a request leaves outside the lanes -/

/-- What no request touches while it is served: the reply buffers, the receiver, resets, time, levels and commands. -/
structure State.Served (s t : State) : Prop where
  replies : t.link.replies = s.link.replies
  errors : t.link.errors = s.link.errors
  rx : t.link.rx = s.link.rx
  pending : t.pending = s.pending

namespace State.Served

variable {s t : State}

theorem refl : s.Served s := ⟨rfl, rfl, rfl, rfl⟩

theorem withLane (lane : Byte) {f : LaneId → State × Answer} (hf : ∀ l, s.Served (f l).1) :
    s.Served (s.withLane lane f).1 := by
  unfold State.withLane
  split
  · exact hf _
  · exact .refl

theorem answerLane (lane : Byte) (f : LaneView → LaneView × Answer) : s.Served (s.answerLane lane f).1 :=
  .withLane lane fun _ => ⟨rfl, rfl, rfl, rfl⟩

theorem fetchAny (n : Nat) : s.Served (s.fetchAny n).1 := by
  unfold State.fetchAny
  split
  · exact ⟨rfl, rfl, rfl, rfl⟩
  · split <;> exact ⟨rfl, rfl, rfl, rfl⟩

theorem serveStatus (lane : Byte) : s.Served (s.serveStatus lane).1 := by
  unfold State.serveStatus
  split
  · exact .refl
  · exact .answerLane lane _

theorem serveRule (index : Byte) (f : RuleFields) : s.Served (s.serveRule index f).1 := by
  unfold State.serveRule State.writeRule
  split
  · split <;> exact ⟨rfl, rfl, rfl, rfl⟩
  · exact .refl

theorem serveRuleQ (index : Byte) : s.Served (s.serveRuleQ index).1 := by
  unfold State.serveRuleQ
  split <;> exact .refl

theorem serveFetch (lane maximum : Byte) : s.Served (s.serveFetch lane maximum).1 := by
  unfold State.serveFetch
  dsimp only
  split
  · exact .fetchAny _
  · exact .withLane lane fun _ => ⟨rfl, rfl, rfl, rfl⟩

theorem serveUnlock : s.Served s.serveUnlock.1 := by
  unfold State.serveUnlock
  split <;> exact ⟨rfl, rfl, rfl, rfl⟩

theorem serve (s : State) (r : Request) : s.Served (s.serve r).1 := by
  cases r with
  | ident | restart => exact ⟨rfl, rfl, rfl, rfl⟩
  | status lane => exact .serveStatus lane
  | rule index f => exact .serveRule index f
  | ruleQ index => exact .serveRuleQ index
  | fetch lane maximum => exact .serveFetch lane maximum
  | unlock => exact .serveUnlock
  | laneCfg lane | laneSet lane | keymap lane | power lane | release lane | flags lane | inhibit lane | tone lane
  | counts lane | check lane | clrFault lane => exact .answerLane lane _

theorem serveParsed (s : State) (parsed : Except ReplyCode Request) : s.Served (s.serveParsed parsed).1 := by
  cases parsed with
  | ok r => exact .serve s r
  | error code => exact .refl

end State.Served

theorem State.takeRequest_pending (s : State) (kind tag : Byte) (parsed : Except ReplyCode Request) :
    (s.takeRequest kind tag parsed).pending = s.pending := by
  unfold State.takeRequest
  repeat' split
  · rfl
  · rfl
  · rfl
  · exact (State.Served.serveParsed s parsed).pending

/-- The lockdown event sets the latch; of the part outside the lanes it changes the alarm queue and ATTN besides. -/
theorem State.lockdownEvent_outside (s : State) :
    s.lockdownEvent = { s with
      lanes := s.lockdownEvent.lanes, poolFree := s.lockdownEvent.poolFree, alarms := s.lockdownEvent.alarms
      attn := s.lockdownEvent.attn, lockdown := true } :=
  State.lockdownEvent_keeps
    (P := fun t => t = { s with
      lanes := t.lanes, poolFree := t.poolFree, alarms := t.alarms, attn := t.attn, lockdown := true })
    rfl fun {t} ht l => by
      have honLane : t.onLane l LaneView.lockdownCut = { t with
          lanes := (t.onLane l LaneView.lockdownCut).lanes
          poolFree := (t.onLane l LaneView.lockdownCut).poolFree
          alarms := (t.onLane l LaneView.lockdownCut).alarms
          attn := (t.onLane l LaneView.lockdownCut).attn } := rfl
      rw [honLane]
      generalize t.onLane l LaneView.lockdownCut = u
      rw [ht]

theorem State.endReset_outside (s : State) :
    s.endReset.link = s.link ∧ s.endReset.pending = s.pending := by
  unfold State.endReset
  dsimp only
  split
  · rw [State.lockdownEvent_outside]
    exact ⟨rfl, rfl⟩
  · exact ⟨rfl, rfl⟩

/-! ### Commands stay in their lane -/

/-- What a command that names lane `l` leaves as it was. -/
def State.Beside (s t : State) (l : LaneId) : Prop :=
  (∀ k : LaneId, k ≠ l → t.lanes[k] = s.lanes[k]) ∧ t.rules = s.rules ∧ t.pointers = s.pointers ∧
    t.lockdown = s.lockdown ∧ t.timeBase = s.timeBase

theorem State.LaneFrame.beside {s t : State} {l : LaneId} (h : s.LaneFrame t l) : s.Beside t l :=
  ⟨h.lanes, h.rules, h.pointers, h.lockdown, h.timeBase⟩

theorem State.request_beside (s : State) (tag : Byte) {r : Request} {b : Byte} {l : LaneId} (hb : r.laneByte = some b)
    (hl : b.toNat = l.val) : s.Beside (s.request tag r) l := by
  have hsame : s.Beside s l := ⟨fun _ _ => rfl, rfl, rfl, rfl, rfl⟩
  unfold State.request State.takeRequest
  repeat' split
  · exact hsame
  · exact hsame
  · exact hsame
  · obtain ⟨v, attn, hserved⟩ := s.serve_lane hb hl
    rw [show s.serveParsed (.ok r) = s.serve r from rfl, hserved]
    exact ⟨fun k hk => State.put_lanes_other s l k v hk, rfl, rfl, rfl, rfl⟩

theorem State.hostByte_pending (s : State) (b : Byte) : (s.hostByte b).pending = s.pending := by
  have hcomplete : s.completeRequest.pending = s.pending := by
    unfold State.completeRequest
    split
    · exact State.takeRequest_pending _ _ _ _
    · rfl
  unfold State.hostByte
  dsimp only
  split
  case h_1 => split <;> rfl
  case h_3 => split <;> rfl
  case h_6 =>
    split
    · exact hcomplete
    · rfl
  all_goals rfl

/-- A command that is no request answers a next state, within its lane when it names one. -/
theorem exec_event_beside {c : Instr} (h : isRequest c = false) (s : State) :
    ∃ t, exec c s = .next t ∧ t.pending = s.pending ∧ ∀ l, laneNamed c = some l → s.Beside t l := by
  have hevent (l : LaneId) (f : LaneView → LaneView) :
      (s.laneEvent l f).pending = s.pending ∧ ∀ k, some l = some k → s.Beside (s.laneEvent l f) k := by
    refine ⟨(s.laneEvent_frame l f).pending, fun k hk => ?_⟩
    cases hk
    exact (s.laneEvent_frame l f).beside
  have hpinned (l : LaneId) (f g : LaneView → LaneView) :
      ((s.onLane l f).laneEvent l g).pending = s.pending ∧
        ∀ k, some l = some k → s.Beside ((s.onLane l f).laneEvent l g) k := by
    have hframe := (s.onLane_frame l f).trans ((s.onLane l f).laneEvent_frame l g)
    refine ⟨hframe.pending, fun k hk => ?_⟩
    cases hk
    exact hframe.beside
  have hsame (l : LaneId) : s.pending = s.pending ∧ ∀ k, some l = some k → s.Beside s k :=
    ⟨rfl, fun _ _ => ⟨fun _ _ => rfl, rfl, rfl, rfl, rfl⟩⟩
  cases c with
  | ident | statusLane | statusDevice | laneCfgRead | laneCfgWrite | laneSetRead | laneSetWrite | keymap | rule | ruleQ
  | powerOn | powerOff | fetchAny | fetchLane | release | flags | inhibitOn | inhibitOff | tone | counts | checkStart
  | checkStop | checkInsert | unlock | clrFault | restart => cases h
  | hostByteArrival byte stopError =>
    refine ⟨_, rfl, ?_, nofun⟩
    split
    · rfl
    · split
      · split <;> rfl
      · exact s.hostByte_pending byte
  | hostGapExpiry | replySent | lkdDeassert =>
    refine ⟨_, rfl, ?_, nofun⟩
    split <;> rfl
  | restartReset =>
    refine ⟨_, rfl, ?_, nofun⟩
    split
    · exact (State.endReset_outside _).2
    · rfl
  | powerOnReset | rstAssert => exact ⟨_, rfl, rfl, nofun⟩
  | powerOnResetEnd rate1 rate0 | rstRelease rate1 rate0 =>
    refine ⟨_, rfl, ?_, nofun⟩
    dsimp only
    split
    · rfl
    · split
      · rfl
      · exact (State.endReset_outside _).2
  | lkdAssert =>
    refine ⟨_, rfl, ?_, nofun⟩
    split
    · rfl
    · rw [State.lockdownEvent_outside]
  | pflAssert lane => exact ⟨_, rfl, hpinned lane _ _⟩
  | pflDeassert lane =>
    refine ⟨_, rfl, rfl, fun l hl => ?_⟩
    cases hl
    exact (s.onLane_frame lane _).beside
  | srxLevelChange lane level | dsnChange lane level =>
    refine ⟨_, rfl, ?_⟩
    split
    · exact hsame lane
    · exact hpinned lane _ _
  | settleExpiry lane | sampleArrival lane | typematicExpiry lane | scannerByteArrival lane | checkByteArrival lane
  | frameCompletion lane | scannerGapExpiry lane | breakCharacter lane | breakTimerExpiry lane | commandSent lane
  | senseStabilityExpiry lane | pulseExpiry lane | docAssert lane | confirmExpiry lane | openLongExpiry lane
  | reportTimerExpiry lane | duplicateWindowExpiry lane | checkByteSent lane | checkTimerExpiry lane =>
    exact ⟨_, rfl, hevent lane _⟩

/-- Settles O2: a request reaches the lane its field names, and an event of a lane that lane. -/
theorem commandsStayInTheirLane : Obligations.CommandsStayInTheirLane := by
  unfold Obligations.CommandsStayInTheirLane
  intro c s
  cases hc : isRequest c with
  | false => exact exec_event_beside hc s
  | true =>
    obtain ⟨tag, r, hexec, hnamed⟩ := exec_isRequest hc
    refine ⟨_, hexec s, State.takeRequest_pending s _ tag _, fun l hl => ?_⟩
    rw [hnamed, Option.bind_eq_some_iff] at hl
    obtain ⟨b, hb, hlane⟩ := hl
    exact s.request_beside tag hb (laneOfByte_eq_some.mp hlane)

/-! ### Requests discarded, and nothing heard while the part is held -/

/-- What may change while the part is held in reset: the levels outside it. -/
def State.Deaf (s t : State) : Prop :=
  t = { s with lanes := t.lanes, lkdPin := t.lkdPin } ∧
    ∀ k : LaneId, t.lanes[k] = { s.lanes[k] with pins := t.lanes[k].pins }

theorem State.Deaf.refl (s : State) : s.Deaf s := ⟨rfl, fun _ => rfl⟩

/-- An event whose pin is set and which is then not heard. -/
theorem State.setPins_deaf (s : State) (l : LaneId) (x : LaneView → LanePins) :
    s.Deaf (s.onLane l fun v => v.setPins (x v)) := by
  refine ⟨rfl, fun k => ?_⟩
  by_cases hk : k = l
  · subst hk
    rw [State.onLane_lanes_self]
    rfl
  · rw [State.onLane_lanes_other s l k _ hk]

theorem exec_held {c : Instr} {s : State} (hc : isHoldRow c = false) (hs : s.held = true) :
    ∃ t, exec c s = .next t ∧ s.Deaf t := by
  have hsame := State.Deaf.refl s
  have hevent (l : LaneId) (f : LaneView → LaneView) : s.Deaf (s.laneEvent l f) := by
    rw [s.laneEvent_held l f hs]
    exact hsame
  have hpinned (l : LaneId) (x : LaneView → LanePins) (f : LaneView → LaneView) :
      s.Deaf ((s.onLane l fun v => v.setPins (x v)).laneEvent l f) := by
    have hheld : (s.onLane l fun v => v.setPins (x v)).held = true := hs
    rw [State.laneEvent_held _ l f hheld]
    exact s.setPins_deaf l x
  cases c with
  | powerOnReset | powerOnResetEnd | rstAssert | rstRelease => cases hc
  | ident | statusLane | statusDevice | laneCfgRead | laneCfgWrite | laneSetRead | laneSetWrite | keymap | rule | ruleQ
  | powerOn | powerOff | fetchAny | fetchLane | release | flags | inhibitOn | inhibitOff | tone | counts | checkStart
  | checkStop | checkInsert | unlock | clrFault | restart =>
    refine ⟨_, rfl, ?_⟩
    rw [State.request_held _ _ _ hs]
    exact hsame
  | hostByteArrival | replySent =>
    refine ⟨_, rfl, ?_⟩
    rw [if_pos hs]
    exact hsame
  | hostGapExpiry | restartReset =>
    refine ⟨_, rfl, ?_⟩
    rw [if_neg (by rw [hs]; exact Bool.false_ne_true)]
    exact hsame
  | lkdAssert =>
    refine ⟨_, rfl, ?_⟩
    rw [if_pos (by rw [hs]; rfl)]
    exact ⟨rfl, fun _ => rfl⟩
  | lkdDeassert =>
    refine ⟨_, rfl, ?_⟩
    rw [if_pos hs]
    exact ⟨rfl, fun _ => rfl⟩
  | pflAssert lane => exact ⟨_, rfl, hpinned lane _ _⟩
  | pflDeassert lane => exact ⟨_, rfl, s.setPins_deaf lane _⟩
  | srxLevelChange lane level | dsnChange lane level =>
    refine ⟨_, rfl, ?_⟩
    split
    · exact hsame
    · exact hpinned lane _ _
  | settleExpiry lane | sampleArrival lane | typematicExpiry lane | scannerByteArrival lane | checkByteArrival lane
  | frameCompletion lane | scannerGapExpiry lane | breakCharacter lane | breakTimerExpiry lane | commandSent lane
  | senseStabilityExpiry lane | pulseExpiry lane | docAssert lane | confirmExpiry lane | openLongExpiry lane
  | reportTimerExpiry lane | duplicateWindowExpiry lane | checkByteSent lane | checkTimerExpiry lane =>
    exact ⟨_, rfl, hevent lane _⟩

/-- Settles O3: the two discards of a request row, then the rows of a part held in reset. -/
theorem requestsDiscardedAndInputsUnheard : Obligations.RequestsDiscardedAndInputsUnheard := by
  unfold Obligations.RequestsDiscardedAndInputsUnheard
  refine ⟨fun c s hc hs hfull => ?full, fun c s hc hs hfree hpending => ?pending, fun c s hc hs => exec_held hc hs⟩
  case full =>
    obtain ⟨tag, r, hexec, -⟩ := exec_isRequest hc
    rw [hexec, s.request_full tag r hs hfull]
    rfl
  case pending =>
    obtain ⟨tag, r, hexec, -⟩ := exec_isRequest hc
    rw [hexec, s.request_pending tag r hs hfree hpending]

/-! ### The step, IDENT, RESTART and the line HTX -/

/-- Settles O1: a step reads the queue of waiting commands. -/
theorem stepTakesTheFrontCommand : Obligations.StepTakesTheFrontCommand := by
  unfold Obligations.StepTakesTheFrontCommand
  exact ⟨fun c rest s => step_cons { s with pending := c :: rest } c rest rfl, fun s hp => step_nil s hp⟩

theorem hostFrame_reply (r : Reply) :
    r.frame = [0xC3] ++ (bytes16n (r.body.length + 3) ++ [r.kind, r.tag, r.code.byte] ++ r.body) ++
      bytes16 (crcOf (bytes16n (r.body.length + 3) ++ [r.kind, r.tag, r.code.byte] ++ r.body)) := by
  simp only [Reply.frame, hostFrame, List.length_cons, List.append_assoc, List.cons_append, List.nil_append]

theorem State.htx_mark {s : State} (h : s.held = true ∨ s.link.replies = []) : s.htx = .mark := by
  unfold State.htx
  split
  · rfl
  · next hheld => rw [h.resolve_left hheld]

/-- Settles O4: IDENT, RESTART, the end of a reply with the frame it had on the line, and the two rests of HTX. -/
theorem identRestartAndReplySent : Obligations.IdentRestartAndReplySent := by
  unfold Obligations.IdentRestartAndReplySent
  refine ⟨fun s tag hs => ?ident, fun s tag hs => ?restart, fun s r rest hs hr => ⟨?sent, ?line⟩,
    fun s h => s.htx_mark h, fun s t h => ?cut⟩
  case ident =>
    have hexec : exec (.ident tag) s = .next (s.request tag .ident) := rfl
    have hkind : RequestKind.ident.byte ≠ 0x0A#8 := by decide
    rw [hexec, s.request_ready tag _ hs]
    exact congrArg _ (State.pushReply_answer _ _ tag _ hkind)
  case restart =>
    have hexec : exec (.restart tag) s = .next (s.request tag .restart) := rfl
    have hkind : RequestKind.restart.byte ≠ 0x0A#8 := by decide
    rw [hexec, s.request_ready tag _ hs]
    exact ⟨_, rfl, State.pushReply_answer _ _ tag _ hkind⟩
  case sent =>
    show Host.Outcome.next (if s.held then s else _) = _
    rw [hs, hr]
    rfl
  case line =>
    rintro covered rfl
    rw [← hostFrame_reply, State.htx, hs, hr]
    rfl
  case cut =>
    obtain h | h := h <;> cases h
    · exact State.htx_mark (.inl rfl)
    · exact State.htx_mark (.inr rfl)

end Sys2Proof.Machine
end

section
/-!
PROOFS. The host link (sections 10.2 and 10.3): the receiver byte by byte, the frames it takes, the request rows that frames
spell, the refusals ahead of every field, and the law of the link.
-/

namespace Sys2Proof.Machine

/-! ### Numbers of two and four bytes -/

theorem word16_toNat (a b : Byte) : (word16 a b).toNat = a.toNat + 256 * b.toNat := by
  have ha := a.isLt
  rw [word16, BitVec.toNat_append, ← Nat.shiftLeft_add_eq_or_of_lt ha, Nat.shiftLeft_eq]
  omega

theorem word16_bytes (w : BitVec 16) : word16 (w.setWidth 8) ((w >>> 8).setWidth 8) = w := by
  apply BitVec.eq_of_toNat_eq
  have hw := w.isLt
  rw [word16_toNat, BitVec.toNat_setWidth, BitVec.toNat_setWidth, BitVec.toNat_ushiftRight, Nat.shiftRight_eq_div_pow]
  omega

theorem word32_toNat (a b c d : Byte) :
    (word32 a b c d).toNat = a.toNat + 256 * b.toNat + 65536 * c.toNat + 16777216 * d.toNat := by
  have ha := a.isLt
  have hb := b.isLt
  have hc := c.isLt
  rw [word32, BitVec.toNat_append, BitVec.toNat_append, BitVec.toNat_append, ← Nat.shiftLeft_add_eq_or_of_lt ha,
    ← Nat.shiftLeft_add_eq_or_of_lt hb, ← Nat.shiftLeft_add_eq_or_of_lt hc, Nat.shiftLeft_eq, Nat.shiftLeft_eq,
    Nat.shiftLeft_eq]
  omega

theorem word32_bytes (w : BitVec 32) :
    word32 (w.setWidth 8) ((w >>> 8).setWidth 8) ((w >>> 16).setWidth 8) ((w >>> 24).setWidth 8) = w := by
  apply BitVec.eq_of_toNat_eq
  have hw := w.isLt
  rw [word32_toNat]
  simp only [BitVec.toNat_setWidth, BitVec.toNat_ushiftRight, Nat.shiftRight_eq_div_pow]
  omega

/-- A byte of a number is the number shifted down, cut to 8 bits. -/
theorem setWidth_ushiftRight {n : Nat} (w : BitVec n) (k : Nat) :
    (w >>> k).setWidth 8 = BitVec.ofNat 8 (w.toNat / 2 ^ k) := by
  apply BitVec.eq_of_toNat_eq
  rw [BitVec.toNat_setWidth, BitVec.toNat_ushiftRight, Nat.shiftRight_eq_div_pow, BitVec.toNat_ofNat]

theorem setWidth_ofNat {n : Nat} (w : BitVec n) : w.setWidth 8 = BitVec.ofNat 8 w.toNat := by
  apply BitVec.eq_of_toNat_eq
  rw [BitVec.toNat_setWidth, BitVec.toNat_ofNat]

theorem bytes16_eq (w : BitVec 16) : bytes16 w = [BitVec.ofNat 8 w.toNat, BitVec.ofNat 8 (w.toNat / 256)] := by
  rw [bytes16, setWidth_ushiftRight, setWidth_ofNat]
  rfl

theorem bytes32_eq (x : BitVec 32) :
    bytes32 x =
      [BitVec.ofNat 8 x.toNat, BitVec.ofNat 8 (x.toNat / 256), BitVec.ofNat 8 (x.toNat / 65536),
        BitVec.ofNat 8 (x.toNat / 16777216)] := by
  rw [bytes32, setWidth_ushiftRight, setWidth_ushiftRight, setWidth_ushiftRight, setWidth_ofNat]
  rfl

/-! ### The CRC (R174) -/

theorem crcOf_append (xs : List Byte) (b : Byte) : crcOf (xs ++ [b]) = crcByte (crcOf xs) b := by
  rw [crcOf, List.foldl_append]
  rfl

/-- '1' to '9' give 0x29B1 (R174), one byte at a time. -/
theorem crcOf_digits : crcOf [0x31, 0x32, 0x33, 0x34, 0x35, 0x36, 0x37, 0x38, 0x39] = 0x29B1 := by
  have h1 : crcByte 0xFFFF 0x31 = 0xC782 := by decide
  have h2 : crcByte 0xC782 0x32 = 0x3DBA := by decide
  have h3 : crcByte 0x3DBA 0x33 = 0x5BCE := by decide
  have h4 : crcByte 0x5BCE 0x34 = 0x5349 := by decide
  have h5 : crcByte 0x5349 0x35 = 0x4560 := by decide
  have h6 : crcByte 0x4560 0x36 = 0x2EF4 := by decide
  have h7 : crcByte 0x2EF4 0x37 = 0x7718 := by decide
  have h8 : crcByte 0x7718 0x38 = 0xA12B := by decide
  have h9 : crcByte 0xA12B 0x39 = 0x29B1 := by decide
  simp only [crcOf, List.foldl_cons, List.foldl_nil, h1, h2, h3, h4, h5, h6, h7, h8, h9]

/-- A bit that differs from the register's top bit adds the polynomial. -/
theorem crcBit_eq (crc : BitVec 16) (bit : Bool) :
    crcBit crc bit = if crc.getLsbD 15 = bit then crc <<< 1 else (crc <<< 1) ^^^ 0x1021 := by
  rw [crcBit, show crc.msb = crc.getLsbD 15 from rfl]
  cases crc.getLsbD 15 <;> cases bit <;> rfl

/-! ### The receiver, state by state (R175, R176) -/

section

variable {s : State} {b : Byte}

theorem exec_hostByteArrival (hs : s.held = false) : exec (.hostByteArrival b false) s = .next (s.hostByte b) := by
  show Host.Outcome.next (if s.held then s else s.hostByte b) = _
  rw [hs]
  rfl

theorem exec_hostByteArrival_stopError (hs : s.held = false) (h : s.link.rx.state ≠ .hunt) :
    exec (.hostByteArrival b true) s = .next s.discardFrame := by
  show Host.Outcome.next (if s.held then s else if s.link.rx.state = .hunt then s else s.discardFrame) = _
  rw [hs, if_neg h]
  rfl

theorem exec_hostByteArrival_stopError_hunt (hs : s.held = false) (h : s.link.rx.state = .hunt) :
    exec (.hostByteArrival b true) s = .next s := by
  show Host.Outcome.next (if s.held then s else if s.link.rx.state = .hunt then s else s.discardFrame) = _
  rw [hs, if_pos h]
  rfl

theorem State.hostByte_hunt (h : s.link.rx.state = .hunt) (hb : b ≠ 0xC3) : s.hostByte b = s := by
  unfold State.hostByte
  dsimp only
  rw [h]
  exact if_neg hb

theorem State.hostByte_start (h : s.link.rx.state = .hunt) :
    s.hostByte 0xC3 = s.setHostRx { HostRx.reset with state := .lenLow, crc := 0xFFFF, gap := s.hostGapPoint } := by
  unfold State.hostByte
  dsimp only
  rw [h]
  rfl

theorem State.hostByte_lenLow (h : s.link.rx.state = .lenLow) :
    s.hostByte b = s.setHostRx
      { s.link.rx with
        state := .lenHigh, len := b.setWidth 16, crc := crcByte s.link.rx.crc b, gap := s.hostGapPoint } := by
  unfold State.hostByte
  dsimp only
  rw [h]

theorem State.hostByte_lenHigh (h : s.link.rx.state = .lenHigh) {len : BitVec 16}
    (hlen : len = word16 (s.link.rx.len.setWidth 8) b) (hlow : 2 ≤ len.toNat) (hhigh : len.toNat ≤ 1030) :
    s.hostByte b = s.setHostRx
      { s.link.rx with
        state := .body, len := len, body := [], crc := crcByte s.link.rx.crc b, gap := s.hostGapPoint } := by
  subst hlen
  unfold State.hostByte
  dsimp only
  rw [h]
  exact if_pos ⟨hlow, hhigh⟩

theorem State.hostByte_lenHigh_refused (h : s.link.rx.state = .lenHigh)
    (hlen : (word16 (s.link.rx.len.setWidth 8) b).toNat < 2 ∨ 1030 < (word16 (s.link.rx.len.setWidth 8) b).toNat) :
    s.hostByte b = s.discardFrame := by
  unfold State.hostByte
  dsimp only
  rw [h]
  exact if_neg fun ⟨hlow, hhigh⟩ => by omega

theorem State.hostByte_body (h : s.link.rx.state = .body) :
    s.hostByte b = s.setHostRx
      { s.link.rx with
        state := if s.link.rx.body.length + 1 = s.link.rx.len.toNat then .crcLow else .body
        body := s.link.rx.body ++ [b], crc := crcByte s.link.rx.crc b, gap := s.hostGapPoint } := by
  unfold State.hostByte
  dsimp only
  rw [h]

theorem State.hostByte_crcLow (h : s.link.rx.state = .crcLow) :
    s.hostByte b = s.setHostRx { s.link.rx with state := .crcHigh, crcLow := b, gap := s.hostGapPoint } := by
  unfold State.hostByte
  dsimp only
  rw [h]

theorem State.hostByte_crcHigh (h : s.link.rx.state = .crcHigh) (hcrc : word16 s.link.rx.crcLow b = s.link.rx.crc) :
    s.hostByte b = s.completeRequest := by
  unfold State.hostByte
  dsimp only
  rw [h]
  exact if_pos hcrc

theorem State.hostByte_crcHigh_refused (h : s.link.rx.state = .crcHigh)
    (hcrc : word16 s.link.rx.crcLow b ≠ s.link.rx.crc) : s.hostByte b = s.discardFrame := by
  unfold State.hostByte
  dsimp only
  rw [h]
  exact if_neg hcrc

theorem State.completeRequest_eq {kind tag : Byte} {payload : List Byte}
    (h : s.link.rx.body = kind :: tag :: payload) :
    s.completeRequest = (s.setHostRx .reset).takeRequest kind tag (parseRequest kind payload) := by
  unfold State.completeRequest
  rw [h]

/-- The discard of a frame: one count, and HUNT (R176). -/
theorem State.discardFrame_eq (s : State) :
    s.discardFrame =
      { s with
        link := { s.link with
          rx := HostRx.reset
          errors := if s.link.errors < 65535 then s.link.errors + 1 else 65535 } } := rfl

end

/-- Two bytes are the CRC exactly when their number is (R174). -/
theorem word16_eq_iff (a b : Byte) (w : BitVec 16) : word16 a b = w ↔ w.toNat = a.toNat + 256 * b.toNat := by
  rw [← word16_toNat, BitVec.toNat_inj, eq_comm]

/-- Settles O48: the CRC, then the receiver state by state. -/
theorem theHostReceiverFollowsItsTable : Obligations.TheHostReceiverFollowsItsTable := by
  unfold Obligations.TheHostReceiverFollowsItsTable
  refine ⟨⟨rfl, crcOf_append, fun crc b bit hbit => ?bits, crcOf_digits⟩, fun s b rx gap discarded hs hrx hgap hdisc => ?rx⟩
  case bits =>
    have hstep : ∀ (r : BitVec 16) (i : Nat), bit r i = crcBit r (b.getLsbD i) := fun r i => by
      rw [hbit, crcBit_eq]
    simp only [hstep]
    rfl
  case rx =>
    subst hrx hgap hdisc
    rw [← s.discardFrame_eq]
    refine ⟨fun h => ⟨fun e hbe => ?hunt, ?start⟩, fun h => exec_hostByteArrival_stopError hs h, fun h => ?lenLow,
      fun h len hlen => ⟨fun hbad => ?lenRefused, fun hlow hhigh => ?lenTaken⟩, fun h => ?body, fun h => ?crcLow,
      fun h => ⟨fun hbad => ?crcRefused, fun kind tag payload hbody hcrc => ?complete⟩, fun h hexp => ?gap⟩
    case hunt =>
      cases e with
      | false => rw [exec_hostByteArrival hs, State.hostByte_hunt h (hbe.resolve_right Bool.false_ne_true)]
      | true => exact exec_hostByteArrival_stopError_hunt hs h
    case start =>
      rintro rfl
      rw [exec_hostByteArrival hs, State.hostByte_start h]
      exact ⟨_, rfl, rfl, rfl, rfl⟩
    case lenLow =>
      rw [exec_hostByteArrival hs, State.hostByte_lenLow h]
      refine ⟨_, rfl, rfl, ?_⟩
      have hb := b.isLt
      rw [BitVec.toNat_setWidth]
      omega
    case lenRefused =>
      rw [exec_hostByteArrival hs, State.hostByte_lenHigh_refused h]
      rw [word16_toNat, BitVec.toNat_setWidth]
      omega
    case lenTaken =>
      have hword : BitVec.ofNat 16 len = word16 (s.link.rx.len.setWidth 8) b := by
        apply BitVec.eq_of_toNat_eq
        rw [word16_toNat, BitVec.toNat_setWidth, BitVec.toNat_ofNat]
        omega
      have hval : (BitVec.ofNat 16 len).toNat = len := by
        rw [BitVec.toNat_ofNat]
        omega
      rw [exec_hostByteArrival hs, State.hostByte_lenHigh h hword (by omega) (by omega)]
      rfl
    case body =>
      rw [exec_hostByteArrival hs, State.hostByte_body h]
      rfl
    case crcLow =>
      rw [exec_hostByteArrival hs, State.hostByte_crcLow h]
      rfl
    case crcRefused =>
      rw [exec_hostByteArrival hs, State.hostByte_crcHigh_refused h fun e => hbad ((word16_eq_iff _ _ _).mp e)]
    case complete =>
      rw [exec_hostByteArrival hs, State.hostByte_crcHigh h ((word16_eq_iff _ _ _).mpr hcrc),
        State.completeRequest_eq hbody]
      rfl
    case gap =>
      show Host.Outcome.next (if !s.held && decide (s.link.rx.state ≠ .hunt) && expired s.timeBase s.link.rx.gap then
        s.discardFrame else s) = _
      rw [hs, hexp, decide_eq_true h]
      rfl

/-! ### The law of the link (R173 to R178) -/

/-- A receiver that is in order outside HUNT. -/
theorem HostRx.Law.running {rx : HostRx} {point : Time} (hgap : rx.gap = some point) (hstate : rx.state ≠ .hunt)
    (hbody : rx.state = .body → rx.body.length < rx.len.toNat ∧ 2 ≤ rx.len.toNat ∧ rx.len.toNat ≤ 1030)
    (hcrc : rx.state = .crcLow ∨ rx.state = .crcHigh →
      rx.body.length = rx.len.toNat ∧ 2 ≤ rx.len.toNat ∧ rx.len.toNat ≤ 1030) : rx.Law :=
  ⟨⟨fun h => absurd h hstate, fun h => by rw [hgap] at h; cases h⟩, hbody, hcrc⟩

theorem HostRx.Law.reset : HostRx.reset.Law := ⟨⟨fun _ => rfl, fun _ => rfl⟩, nofun, nofun⟩

namespace State.LinkLaw

variable {s : State}

theorem branch {t : State} {c : Prop} [Decidable c] (h : s.LinkLaw) (k : t.LinkLaw) :
    State.LinkLaw (if c then s else t) := by
  split
  · exact h
  · exact k

theorem setHostRx (h : s.LinkLaw) {rx : HostRx} (hrx : rx.Law) : (s.setHostRx rx).LinkLaw := by
  obtain ⟨hreplies, herrors, -⟩ := h
  exact ⟨hreplies, herrors, hrx⟩

theorem countLinkError (h : s.LinkLaw) : s.countLinkError.LinkLaw := by
  obtain ⟨hreplies, herrors, hrx⟩ := h
  exact ⟨hreplies, bump16_le herrors, hrx⟩

theorem discardFrame (h : s.LinkLaw) : s.discardFrame.LinkLaw := (h.setHostRx .reset).countLinkError

theorem takeRequest (h : s.LinkLaw) (kind tag : Byte) (parsed : Except ReplyCode Request) :
    (s.takeRequest kind tag parsed).LinkLaw := by
  unfold State.takeRequest
  refine h.branch ?_
  split
  · exact h.countLinkError
  · next hroom =>
    refine h.branch ?_
    obtain ⟨-, herrors, hrx⟩ := h
    have hserved := State.Served.serveParsed s parsed
    have hlen : s.link.replies.length < 2 := Nat.not_le.mp hroom
    refine ⟨?_, hserved.errors ▸ herrors, hserved.rx ▸ hrx⟩
    rw [State.pushReply_link, List.length_append, hserved.replies]
    exact hlen

theorem completeRequest (h : s.LinkLaw) : s.completeRequest.LinkLaw := by
  unfold State.completeRequest
  split
  · exact (h.setHostRx .reset).takeRequest _ _ _
  · exact h.setHostRx .reset

theorem hostByte (h : s.LinkLaw) (b : Byte) : (s.hostByte b).LinkLaw := by
  obtain ⟨-, -, hrx⟩ := id h
  obtain ⟨-, hbody, hcrc⟩ := hrx
  cases hstate : s.link.rx.state with
  | hunt =>
    by_cases hb : b = 0xC3
    · rw [hb, State.hostByte_start hstate]
      exact h.setHostRx (.running rfl nofun nofun nofun)
    · rwa [State.hostByte_hunt hstate hb]
  | lenLow =>
    rw [State.hostByte_lenLow hstate]
    exact h.setHostRx (.running rfl nofun nofun nofun)
  | lenHigh =>
    by_cases hlen : 2 ≤ (word16 (s.link.rx.len.setWidth 8) b).toNat ∧ (word16 (s.link.rx.len.setWidth 8) b).toNat ≤ 1030
    · obtain ⟨hlow, hhigh⟩ := hlen
      rw [State.hostByte_lenHigh hstate rfl hlow hhigh]
      exact h.setHostRx (.running rfl nofun (fun _ => ⟨Nat.lt_of_lt_of_le Nat.zero_lt_two hlow, hlow, hhigh⟩) nofun)
    · rw [State.hostByte_lenHigh_refused hstate (by omega)]
      exact h.discardFrame
  | body =>
    obtain ⟨hlt, hlow, hhigh⟩ := hbody hstate
    have hgrown : (s.link.rx.body ++ [b]).length = s.link.rx.body.length + 1 := by simp
    rw [State.hostByte_body hstate]
    by_cases hlast : s.link.rx.body.length + 1 = s.link.rx.len.toNat
    · rw [if_pos hlast]
      exact h.setHostRx (.running rfl nofun nofun fun _ => ⟨hgrown.trans hlast, hlow, hhigh⟩)
    · rw [if_neg hlast]
      have hmore : (s.link.rx.body ++ [b]).length < s.link.rx.len.toNat := by omega
      exact h.setHostRx (.running rfl nofun (fun _ => ⟨hmore, hlow, hhigh⟩) nofun)
  | crcLow =>
    rw [State.hostByte_crcLow hstate]
    exact h.setHostRx (.running rfl nofun nofun fun _ => hcrc (.inl hstate))
  | crcHigh =>
    by_cases hok : word16 s.link.rx.crcLow b = s.link.rx.crc
    · rw [State.hostByte_crcHigh hstate hok]
      exact h.completeRequest
    · rw [State.hostByte_crcHigh_refused hstate hok]
      exact h.discardFrame

/-- The law speaks of the link alone. -/
theorem of_link {t : State} (h : s.LinkLaw) (hlink : t.link = s.link) : t.LinkLaw := by
  rw [State.LinkLaw, hlink]
  exact h

theorem sampleStraps (h : s.LinkLaw) (rate1 rate0 : Strap) : (s.sampleStraps rate1 rate0).LinkLaw := h

theorem endReset (h : s.LinkLaw) : s.endReset.LinkLaw := h.of_link (State.endReset_outside s).1

theorem deviceReset (s : State) : s.deviceReset.LinkLaw := ⟨Nat.zero_le _, Nat.zero_le _, .reset⟩

theorem laneEvent (h : s.LinkLaw) (l : LaneId) (f : LaneView → LaneView) : (s.laneEvent l f).LinkLaw :=
  h.of_link (s.laneEvent_frame l f).link

theorem exec (h : s.LinkLaw) (c : Instr) : ∃ t, Machine.exec c s = .next t ∧ t.LinkLaw := by
  have honLane (l : LaneId) (f : LaneView → LaneView) : (s.onLane l f).LinkLaw := h
  cases c with
  | ident | statusLane | statusDevice | laneCfgRead | laneCfgWrite | laneSetRead | laneSetWrite | keymap | rule | ruleQ
  | powerOn | powerOff | fetchAny | fetchLane | release | flags | inhibitOn | inhibitOff | tone | counts | checkStart
  | checkStop | checkInsert | unlock | clrFault | restart => exact ⟨_, rfl, h.takeRequest _ _ _⟩
  | hostByteArrival byte stopError => exact ⟨_, rfl, h.branch (branch (h.branch h.discardFrame) (h.hostByte byte))⟩
  | hostGapExpiry => exact ⟨_, rfl, h.discardFrame.branch h⟩
  | replySent =>
    obtain ⟨hreplies, herrors, hrx⟩ := id h
    have hleft : s.link.replies.tail.length ≤ 2 := by
      rw [List.length_tail]
      omega
    exact ⟨_, rfl, h.branch ⟨hleft, herrors, hrx⟩⟩
  | powerOnReset | rstAssert => exact ⟨_, rfl, deviceReset s⟩
  | restartReset =>
    have hreset : State.LinkLaw { s.deviceReset with resetSource := .restart } := deviceReset s
    exact ⟨_, rfl, hreset.endReset.branch h⟩
  | powerOnResetEnd rate1 rate0 =>
    have hsampled : (State.sampleStraps { s with porHold := false } rate1 rate0).LinkLaw := h
    exact ⟨_, rfl, h.branch (hsampled.branch hsampled.endReset)⟩
  | rstRelease rate1 rate0 =>
    have hsampled : (State.sampleStraps { s with rstAsserted := false } rate1 rate0).LinkLaw := h
    exact ⟨_, rfl, h.branch (hsampled.branch hsampled.endReset)⟩
  | lkdAssert =>
    have hpin : State.LinkLaw { s with lkdPin := true } := h
    have hevent : State.LinkLaw (State.lockdownEvent { s with lkdPin := true, lkdLevel := true }) :=
      h.of_link (by rw [State.lockdownEvent_outside])
    exact ⟨_, rfl, hpin.branch hevent⟩
  | lkdDeassert =>
    have hpin : State.LinkLaw { s with lkdPin := false } := h
    have hlevel : State.LinkLaw { s with lkdPin := false, lkdLevel := false } := h
    exact ⟨_, rfl, hpin.branch hlevel⟩
  | pflAssert lane => exact ⟨_, rfl, (honLane lane _).laneEvent lane _⟩
  | pflDeassert lane => exact ⟨_, rfl, honLane lane _⟩
  | srxLevelChange lane level | dsnChange lane level => exact ⟨_, rfl, h.branch ((honLane lane _).laneEvent lane _)⟩
  | settleExpiry lane | sampleArrival lane | typematicExpiry lane | scannerByteArrival lane | checkByteArrival lane
  | frameCompletion lane | scannerGapExpiry lane | breakCharacter lane | breakTimerExpiry lane | commandSent lane
  | senseStabilityExpiry lane | pulseExpiry lane | docAssert lane | confirmExpiry lane | openLongExpiry lane
  | reportTimerExpiry lane | duplicateWindowExpiry lane | checkByteSent lane | checkTimerExpiry lane =>
    exact ⟨_, rfl, h.laneEvent lane _⟩

theorem step {t : State} (h : s.LinkLaw) (hstep : Machine.step s = .next t) : t.LinkLaw := by
  cases hp : s.pending with
  | nil =>
    rw [step_nil s hp] at hstep
    cases hstep
    exact h.branch h
  | cons c rest =>
    have hrest : (s.withRest rest).LinkLaw := h
    obtain ⟨u, hexec, hu⟩ := hrest.exec c
    rw [step_cons s c rest hp, hexec] at hstep
    cases hstep
    exact hu

end State.LinkLaw

theorem Lane.reset_inRange : Lane.reset.cfg.InRange ∧ Lane.reset.set.InRange := by
  constructor <;> decide

/-- Settles O60: settings, counters and command queues are laws of each lane that its moves keep; the link has its own. -/
theorem settingsCountersLinkAndCommandsStayInRange : Obligations.SettingsCountersLinkAndCommandsStayInRange := by
  unfold Obligations.SettingsCountersLinkAndCommandsStayInRange
  have hsettings : State.Kept State.SettingsLaw :=
    State.kept_of_lanes (P := fun _ d => d.cfg.InRange ∧ d.set.InRange)
      (fun hw ⟨hcfg, hset⟩ => ⟨hw.moves.cfg_inRange hcfg, hw.moves.set_inRange hset⟩)
      (fun _ _ => Lane.reset_inRange)
  have hcounters : State.Kept State.CounterLaw :=
    State.kept_of_lanes (P := fun _ d => d.counters.Bounded)
      (fun hw hbounded => hw.moves.counters_bounded hbounded) (fun _ _ => Counters.zero_bounded)
  have hcommands : State.Kept State.CommandLaw :=
    State.kept_of_lanes (P := fun _ d => d.port.Queued)
      (fun hw hqueued => hw.moves.port_queued hqueued) (fun _ _ => .of_nil rfl)
  exact ⟨⟨fun s t h hstep => hsettings.step h hstep, fun s t h hstep => hcounters.step h hstep,
    fun s t h hstep => h.step hstep⟩, fun s t h hstep => hcommands.step h hstep⟩

end Sys2Proof.Machine
end

section
/-!
PROOFS. Frames, request rows and refusals (sections 10.2, 10.3, 10.7): the bytes of a frame leave the request they spell,
each request row is such a request, and the kind, the length and the lane are checked ahead of every field.
-/

namespace Sys2Proof.Machine

/-! ### Kinds and payload lengths (R177 steps 3 and 4) -/

theorem RequestKind.ofByte_byte (k : RequestKind) : RequestKind.ofByte k.byte = some k := by cases k <;> rfl

theorem RequestKind.ofByte_none {b : Byte} (h : b.toNat = 0 ∨ 0x12 < b.toNat) : RequestKind.ofByte b = none := by
  unfold RequestKind.ofByte
  split <;> first | omega | rfl

theorem requestOf_kind (k : RequestKind) (p : List Byte) : (requestOf k p).kind = k := by cases k <;> rfl

theorem parseRequest_ok {k : RequestKind} {p : List Byte} (h : p.length = k.payloadLength) :
    parseRequest k.byte p = .ok (requestOf k p) := by
  rw [parseRequest, k.ofByte_byte]
  exact if_pos h

theorem parseRequest_badLength {k : RequestKind} {p : List Byte} (h : p.length ≠ k.payloadLength) :
    parseRequest k.byte p = .error .badLength := by
  rw [parseRequest, k.ofByte_byte]
  exact if_neg h

theorem parseRequest_unknown {b : Byte} (p : List Byte) (h : b.toNat = 0 ∨ 0x12 < b.toNat) :
    parseRequest b p = .error .unknownKind := by
  rw [parseRequest, RequestKind.ofByte_none h]

/-- A payload of the right length is the request it spells. -/
theorem State.takeRequest_spelled (s : State) (tag : Byte) {k : RequestKind} {p : List Byte}
    (h : p.length = k.payloadLength) :
    s.takeRequest k.byte tag (parseRequest k.byte p) = s.request tag (requestOf k p) := by
  rw [parseRequest_ok h, State.request, requestOf_kind]

/-- A request refused ahead of its work: its code alone, and nothing changes. -/
theorem State.takeRequest_error (s : State) (kind tag : Byte) (code : ReplyCode) (hs : s.ready) :
    s.takeRequest kind tag (.error code) = s.pushReply (replyTo kind tag (.only code)) := by
  obtain ⟨hheld, hroom, hpending⟩ := hs
  unfold State.takeRequest
  rw [hheld, hpending, if_neg (by decide), if_neg (Nat.not_le.mpr hroom), if_neg (by decide)]
  rfl

/-- A lane request whose lane byte names no lane (R177 step 5). -/
theorem State.request_badLane (s : State) (k : RequestKind) (tag : Byte) {r : Request} {lane : Byte}
    {f : LaneView → LaneView × Answer} (hs : s.ready) (hserve : s.serve r = s.answerLane lane f) (hk : r.kind = k)
    (hl : 8 ≤ lane.toNat) (hne : k ≠ .release := by decide) :
    s.request tag r = s.answered (k.byte ||| 0x80) tag .badLane [] := by
  rw [s.request_ready tag r hs, hserve, s.answerLane_none lane f hl, hk]
  exact State.pushReply_answer _ _ tag _ (RequestKind.byte_ne_release hne)

/-- The same for RELEASE, whose reply carries a failing set after every code, and for a FETCH that is not ANY. -/
theorem State.request_release_badLane (s : State) (tag : Byte) {lane : Byte} (hs : s.ready) (hl : 8 ≤ lane.toNat) :
    s.request tag (.release lane) = s.answered 0x8A tag .badLane [0] := by
  rw [s.request_ready tag _ hs, s.serve_release, s.answerLane_none lane _ hl]
  exact State.pushReply_release s tag _

theorem State.request_fetch_badLane (s : State) (tag maximum : Byte) {lane : Byte} (hs : s.ready) (hl : 8 ≤ lane.toNat)
    (hany : lane ≠ anyLaneByte) : s.request tag (.fetch lane maximum) = s.answered 0x89 tag .badLane [] := by
  have hserve : s.serve (.fetch lane maximum) = (s, .only .badLane) := by
    rw [State.serve, State.serveFetch, if_neg hany, State.withLane, dif_neg (by omega)]
  have hkind : RequestKind.fetch.byte ≠ 0x0A#8 := by decide
  rw [s.request_ready tag _ hs, hserve]
  exact State.pushReply_answer _ _ tag _ hkind

/-! ### Values no row spells -/

theorem isChoice_eq_false {b : Byte} (h : 2 ≤ b.toNat) : isChoice b = false := decide_eq_false (by omega)

section

variable {v : LaneView} {value : Byte}

theorem LaneView.servePower_refused (h : 2 ≤ value.toNat) : v.servePower value = (v, .only .badField) := by
  rw [LaneView.servePower, isChoice_eq_false h]
  rfl

theorem LaneView.serveInhibit_refused (h : 2 ≤ value.toNat) : v.serveInhibit value = (v, .only .badField) := by
  rw [LaneView.serveInhibit, isChoice_eq_false h]
  rfl

theorem LaneView.serveLaneCfg_refused (h : 2 ≤ value.toNat) (f : LaneCfgFields) :
    whenInactive v (v.serveLaneCfg value f) =
      (v, .only (if v.ln.powered then .laneActive else .badField)) := by
  rw [LaneView.serveLaneCfg, isChoice_eq_false h, whenInactive]
  cases v.ln.powered <;> rfl

theorem LaneView.serveLaneSet_refused (h : 2 ≤ value.toNat) (f : LaneSetFields) :
    v.serveLaneSet value f = (v, .only .badField) := by
  rw [LaneView.serveLaneSet, isChoice_eq_false h]
  rfl

theorem LaneView.serveCheck_refused (h : 3 ≤ value.toNat) (duration : Byte) :
    v.serveCheck value duration = (v, .only (if v.ln.on then .badField else .notReady)) := by
  unfold LaneView.serveCheck
  split
  case h_4 =>
    unfold whenOn
    cases v.ln.on <;> rfl
  all_goals omega

end

/-- Settles O49: the tables, the refusals of kind and length, the values no row spells, then the rows with a lane byte that
names no lane. -/
theorem kindLengthAndLaneAreCheckedFirst : Obligations.KindLengthAndLaneAreCheckedFirst := by
  unfold Obligations.KindLengthAndLaneAreCheckedFirst
  refine ⟨⟨rfl, rfl⟩, fun s kind tag payload hs => ⟨fun hkind => ?unknown, ?badLength, ?spelled⟩,
    fun s tag lane value a pad18 pad28 taken hs h18 h28 htaken => ?values, fun s tag lane a b c f g hs hl => ?badLane⟩
  case unknown =>
    rw [parseRequest_unknown payload hkind, s.takeRequest_error kind tag _ hs]
    refine State.pushReply_answer _ _ tag _ ?_
    rintro rfl
    exact absurd hkind (by decide)
  case badLength =>
    rintro k rfl hlen
    rw [parseRequest_badLength hlen, s.takeRequest_error _ tag _ hs]
    cases k <;> rfl
  case spelled =>
    rintro k rfl hlen
    exact s.takeRequest_spelled tag hlen
  case values =>
    have hspelled : ∀ (k : RequestKind) (p : List Byte), p.length = k.payloadLength →
        taken k.byte p = s.request tag (requestOf k p) := fun k p hlen => by
      rw [htaken]
      exact s.takeRequest_spelled tag hlen
    have hpower := hspelled .power [lane, value] rfl
    have hinhibit := hspelled .inhibit [lane, value] rfl
    have hcfg := hspelled .laneCfg ([lane, value] ++ pad18) (by rw [List.length_append, h18]; rfl)
    have hset := hspelled .laneSet ([lane, value] ++ pad28) (by rw [List.length_append, h28]; rfl)
    have hcheck := hspelled .check [lane, value, a] rfl
    refine ⟨fun l hl => ⟨fun hvalue => ⟨hpower.trans ?_, hinhibit.trans ?_, hcfg.trans ?_, hset.trans ?_⟩,
      fun hvalue => hcheck.trans ?_⟩, fun hl => ⟨hpower.trans ?_, hinhibit.trans ?_, hcfg.trans ?_, hset.trans ?_,
        hcheck.trans ?_⟩⟩
    · exact s.request_lane_same .power tag hs (s.serve_power lane value) rfl hl (LaneView.servePower_refused hvalue)
    · exact s.request_lane_same .inhibit tag hs (s.serve_inhibit lane value) rfl hl (LaneView.serveInhibit_refused hvalue)
    · exact s.request_lane_same .laneCfg tag hs (s.serve_laneCfg lane value _) rfl hl
        (LaneView.serveLaneCfg_refused hvalue _)
    · exact s.request_lane_same .laneSet tag hs (s.serve_laneSet lane value _) rfl hl
        (LaneView.serveLaneSet_refused hvalue _)
    · exact s.request_lane_same .check tag hs (s.serve_check lane value a) rfl hl (LaneView.serveCheck_refused hvalue _)
    · exact s.request_badLane .power tag hs (s.serve_power lane value) rfl hl
    · exact s.request_badLane .inhibit tag hs (s.serve_inhibit lane value) rfl hl
    · exact s.request_badLane .laneCfg tag hs (s.serve_laneCfg lane value _) rfl hl
    · exact s.request_badLane .laneSet tag hs (s.serve_laneSet lane value _) rfl hl
    · exact s.request_badLane .check tag hs (s.serve_check lane value a) rfl hl
  case badLane =>
    refine ⟨congrArg _ (s.request_badLane .laneCfg tag hs (s.serve_laneCfg lane 0 _) rfl hl),
      congrArg _ (s.request_badLane .laneCfg tag hs (s.serve_laneCfg lane 1 f) rfl hl),
      congrArg _ (s.request_badLane .laneSet tag hs (s.serve_laneSet lane 0 _) rfl hl),
      congrArg _ (s.request_badLane .laneSet tag hs (s.serve_laneSet lane 1 g) rfl hl),
      congrArg _ (s.request_badLane .keymap tag hs (s.serve_keymap lane a b c) rfl hl),
      congrArg _ (s.request_badLane .power tag hs (s.serve_power lane 1) rfl hl),
      congrArg _ (s.request_badLane .power tag hs (s.serve_power lane 0) rfl hl),
      fun hany => congrArg _ (s.request_fetch_badLane tag a hs hl hany),
      congrArg _ (s.request_release_badLane tag hs hl),
      congrArg _ (s.request_badLane .flags tag hs (s.serve_flags lane a b) rfl hl),
      congrArg _ (s.request_badLane .inhibit tag hs (s.serve_inhibit lane 1) rfl hl),
      congrArg _ (s.request_badLane .inhibit tag hs (s.serve_inhibit lane 0) rfl hl),
      congrArg _ (s.request_badLane .tone tag hs (s.serve_tone lane a) rfl hl),
      congrArg _ (s.request_badLane .counts tag hs (s.serve_counts lane a) rfl hl),
      congrArg _ (s.request_badLane .check tag hs (s.serve_check lane 0 a) rfl hl),
      congrArg _ (s.request_badLane .check tag hs (s.serve_check lane 1 0) rfl hl),
      congrArg _ (s.request_badLane .check tag hs (s.serve_check lane 2 0) rfl hl),
      congrArg _ (s.request_badLane .clrFault tag hs (s.serve_clrFault lane) rfl hl)⟩

end Sys2Proof.Machine
end

section
/-!
PROOFS. Frames on the line (sections 10.2 and 10.7): the bytes of a frame leave the part that has taken the request they
spell, and each request row is the request its kind and payload bytes spell.
-/

namespace Sys2Proof.Machine

/-! ### A frame, byte by byte -/

/-- The state with other waiting commands and another receiver. -/
def State.receiving (s : State) (pending : List Instr) (rx : HostRx) : State :=
  { s with pending := pending, link := { s.link with rx := rx } }

/-- The row of a byte that arrives without a stop-bit error. -/
def byteRow (b : Byte) : Instr := .hostByteArrival b false

theorem core_run_succ (n : Nat) {s t : State} (h : step s = .next t) :
    Sys2Proof.core.run (n + 1) s = Sys2Proof.core.run n t := by
  have hcore : Sys2Proof.core.step s = .next t := h
  simp only [Host.Core.run, hcore]

/-- One byte of a frame is one step. -/
theorem core_run_byte (n : Nat) {s : State} {b : Byte} {more : List Instr} {rx : HostRx} {t : State}
    (hs : s.held = false) (hbyte : (s.receiving more rx).hostByte b = t) :
    Sys2Proof.core.run (n + 1) (s.receiving (byteRow b :: more) rx) = Sys2Proof.core.run n t := by
  have hheld : (s.receiving more rx).held = false := hs
  refine core_run_succ n ?_
  rw [step_cons _ (byteRow b) more rfl, ← hbyte]
  exact exec_hostByteArrival hheld

section

variable {s : State} {gap : Option Time} {rest : List Instr}

theorem receiving_start (more : List Instr) {rx : HostRx} (h : rx.state = .hunt) :
    (s.receiving more rx).hostByte 0xC3 =
      s.receiving more { HostRx.reset with state := .lenLow, crc := 0xFFFF, gap := s.hostGapPoint } :=
  State.hostByte_start h

theorem receiving_lenLow (more : List Instr) {rx : HostRx} (b : Byte) (h : rx.state = .lenLow) :
    (s.receiving more rx).hostByte b = s.receiving more
      { rx with state := .lenHigh, len := b.setWidth 16, crc := crcByte rx.crc b, gap := s.hostGapPoint } :=
  State.hostByte_lenLow h

theorem receiving_lenHigh (more : List Instr) {rx : HostRx} (b : Byte) (h : rx.state = .lenHigh) {len : BitVec 16}
    (hlen : len = word16 (rx.len.setWidth 8) b) (hlow : 2 ≤ len.toNat) (hhigh : len.toNat ≤ 1030) :
    (s.receiving more rx).hostByte b = s.receiving more
      { rx with state := .body, len := len, body := [], crc := crcByte rx.crc b, gap := s.hostGapPoint } :=
  State.hostByte_lenHigh h hlen hlow hhigh

theorem receiving_crcLow (more : List Instr) {rx : HostRx} (b : Byte) (h : rx.state = .crcLow) :
    (s.receiving more rx).hostByte b =
      s.receiving more { rx with state := .crcHigh, crcLow := b, gap := s.hostGapPoint } :=
  State.hostByte_crcLow h

theorem receiving_crcHigh (more : List Instr) {rx : HostRx} (b : Byte) (h : rx.state = .crcHigh)
    (hcrc : word16 rx.crcLow b = rx.crc) {kind tag : Byte} {payload : List Byte}
    (hbody : rx.body = kind :: tag :: payload) :
    (s.receiving more rx).hostByte b =
      (s.receiving more .reset).takeRequest kind tag (parseRequest kind payload) :=
  (State.hostByte_crcHigh h hcrc).trans (State.completeRequest_eq hbody)

theorem receiving_body (more : List Instr) {rx : HostRx} (b : Byte) (h : rx.state = .body) :
    (s.receiving more rx).hostByte b = s.receiving more
      { rx with
        state := if rx.body.length + 1 = rx.len.toNat then .crcLow else .body
        body := rx.body ++ [b], crc := crcByte rx.crc b, gap := s.hostGapPoint } :=
  State.hostByte_body h

/-- The bytes of the body: each joins the body and the CRC, and behind the last the CRC is awaited. -/
theorem core_run_body (hs : s.held = false) (n : Nat) {rx : HostRx} (b : Byte) {bs : List Byte}
    (hstate : rx.state = .body) (hlen : rx.body.length + (bs.length + 1) = rx.len.toNat) :
    Sys2Proof.core.run (n + (bs.length + 1)) (s.receiving ((b :: bs).map byteRow ++ rest) rx) =
      Sys2Proof.core.run n
        (s.receiving rest
          { rx with
            state := .crcLow, body := rx.body ++ b :: bs, crc := (b :: bs).foldl crcByte rx.crc
            gap := s.hostGapPoint }) := by
  induction bs generalizing rx b with
  | nil =>
    have hbyte := receiving_body (s := s) rest b hstate
    rw [if_pos (show rx.body.length + 1 = rx.len.toNat from hlen)] at hbyte
    exact core_run_byte n hs hbyte
  | cons c bs ih =>
    rw [List.length_cons] at hlen
    have hbyte := receiving_body (s := s) ((c :: bs).map byteRow ++ rest) b hstate
    rw [if_neg (by omega)] at hbyte
    have hgrown : (rx.body ++ [b]).length + (bs.length + 1) = rx.len.toNat := by
      rw [List.length_append, List.length_singleton]
      omega
    refine (core_run_byte (n + (bs.length + 1)) hs hbyte).trans ((ih c rfl hgrown).trans ?_)
    rw [List.append_assoc]
    rfl

/-- The whole frame: start byte, LEN, body and CRC, each given as the number its two bytes make (R173 to R175). -/
theorem core_run_rows (hs : s.held = false) {kind tag : Byte} {payload : List Byte} (hlen : payload.length ≤ 1028)
    {w crc : BitVec 16} (hw : w.toNat = payload.length + 2) {low high : Byte} (hword : w = word16 low high)
    (hcrc : (kind :: tag :: payload).foldl crcByte (crcByte (crcByte 0xFFFF low) high) = crc) {crcLow crcHigh : Byte}
    (hcheck : word16 crcLow crcHigh = crc) :
    Sys2Proof.core.run (2 + ((tag :: payload).length + 1) + 1 + 1 + 1)
        (s.receiving (byteRow 0xC3 :: byteRow low :: byteRow high ::
          ((kind :: tag :: payload).map byteRow ++ byteRow crcLow :: byteRow crcHigh :: rest)) .reset) =
      .next ((s.receiving rest .reset).takeRequest kind tag (parseRequest kind payload)) := by
  have hlow : (low.setWidth 16).setWidth 8 = low := by
    apply BitVec.eq_of_toNat_eq
    have := low.isLt
    simp only [BitVec.toNat_setWidth]
    omega
  rw [core_run_byte _ hs (receiving_start _ rfl), core_run_byte _ hs (receiving_lenLow _ low rfl),
    core_run_byte _ hs (receiving_lenHigh _ high rfl (len := w) (by rw [hlow, hword]) (by omega) (by omega)),
    core_run_body hs 2 kind rfl (by rw [hw]; simp), hcrc,
    core_run_byte 1 hs (receiving_crcLow _ crcLow rfl),
    core_run_byte 0 hs (receiving_crcHigh _ crcHigh rfl hcheck rfl)]
  rfl

theorem crcOf_covered (w : BitVec 16) (kind tag : Byte) (payload : List Byte) :
    crcOf (bytes16 w ++ [kind, tag] ++ payload) =
      (kind :: tag :: payload).foldl crcByte (crcByte (crcByte 0xFFFF (w.setWidth 8)) ((w >>> 8).setWidth 8)) := by
  simp only [crcOf, bytes16, List.cons_append, List.nil_append, List.foldl_cons]

theorem core_run_frame (hs : s.held = false) {kind tag : Byte} {payload : List Byte} (hlen : payload.length ≤ 1028) :
    Sys2Proof.core.run (payload.length + 7)
        (s.receiving ((hostFrame kind tag payload).map byteRow ++ rest) .reset) =
      .next ((s.receiving rest .reset).takeRequest kind tag (parseRequest kind payload)) := by
  have hw : (BitVec.ofNat 16 (payload.length + 2)).toNat = payload.length + 2 := by
    rw [BitVec.toNat_ofNat]
    omega
  have hcount : payload.length + 7 = 2 + ((tag :: payload).length + 1) + 1 + 1 + 1 := by
    rw [List.length_cons]
    omega
  rw [hcount, hostFrame, bytes16n]
  have hcrc := (crcOf_covered (BitVec.ofNat 16 (payload.length + 2)) kind tag payload).symm
  have hrun := core_run_rows (rest := rest) hs hlen hw (word16_bytes _).symm hcrc (word16_bytes _)
  rw [← hrun]
  simp [bytes16]

end

/-! ### Request rows as kind and payload (R190) -/

/-- The fields that a LANECFG or LANESET reads when it does not write, and a CHECK that does not start, are not examined. -/
theorem State.request_cfgRead (s : State) (tag lane : Byte) (f g : LaneCfgFields) :
    s.request tag (.laneCfg lane 0 f) = s.request tag (.laneCfg lane 0 g) := rfl

theorem State.request_setRead (s : State) (tag lane : Byte) (f g : LaneSetFields) :
    s.request tag (.laneSet lane 0 f) = s.request tag (.laneSet lane 0 g) := rfl

theorem State.request_checkStop (s : State) (tag lane d e : Byte) :
    s.request tag (.check lane 1 d) = s.request tag (.check lane 1 e) := rfl

theorem State.request_checkInsert (s : State) (tag lane d e : Byte) :
    s.request tag (.check lane 2 d) = s.request tag (.check lane 2 e) := rfl

theorem laneCfgFieldsOf_bytes (lane write : Byte) (f : LaneCfgFields) :
    laneCfgFieldsOf ([lane, write, f.settle, f.rows, f.cols, f.period, f.debounce] ++ bytes16 f.typDelay ++
      bytes16 f.typPeriod ++ [f.releaseKey] ++ bytes32 f.rate ++ [f.gap, f.pulse] ++ bytes16 f.confirm) = f := by
  have hdelay := word16_bytes f.typDelay
  have hperiod := word16_bytes f.typPeriod
  have hrate := word32_bytes f.rate
  have hconfirm := word16_bytes f.confirm
  cases f
  simp only [laneCfgFieldsOf, LaneCfgFields.mk.injEq]
  exact ⟨rfl, rfl, rfl, rfl, rfl, hdelay, hperiod, rfl, hrate, rfl, rfl, hconfirm⟩

/-- A vector's bytes inside a payload are read back. -/
theorem ofFn_byteAt {n : Nat} (before after : List Byte) (xs : Vector Byte n) :
    (Vector.ofFn fun i : Fin n => byteAt (before ++ xs.toList ++ after) (before.length + i.val)) = xs := by
  apply Vector.ext
  intro i hi
  have hlen : i < xs.toList.length := by simpa using hi
  rw [Vector.getElem_ofFn, byteAt, List.append_assoc, List.getD_append_right _ _ _ _ (Nat.le_add_right _ _),
    Nat.add_sub_cancel_left, List.getD_append _ _ _ _ hlen, List.getD_eq_getElem _ _ hlen, Vector.getElem_toList]

/-- The bytes behind a vector's. -/
theorem byteAt_behind {n : Nat} (before after : List Byte) (xs : Vector Byte n) (j : Nat) :
    byteAt (before ++ xs.toList ++ after) (before.length + n + j) = byteAt after j := by
  have hlen : (before ++ xs.toList).length = before.length + n := by simp
  rw [byteAt, List.getD_append_right _ _ _ _ (by omega), hlen, Nat.add_sub_cancel_left, byteAt]

theorem laneSetFieldsOf_bytes (lane write : Byte) (g : LaneSetFields) :
    laneSetFieldsOf ([lane, write, g.confirmTones, g.inhibitOpen, g.strict] ++ bytes32 g.valueLimit ++
      bytes16 g.dupWindow ++ [g.quota, g.high, g.low] ++ bytes16 g.openLong ++ [g.hostMask, g.keyMask, g.consume] ++
      g.modes.toList ++ [g.counterMode, g.interval, g.priority]) = g := by
  have hlimit := word32_bytes g.valueLimit
  have hwindow := word16_bytes g.dupWindow
  have hopenLong := word16_bytes g.openLong
  have hmodes := ofFn_byteAt ([lane, write, g.confirmTones, g.inhibitOpen, g.strict] ++ bytes32 g.valueLimit ++
      bytes16 g.dupWindow ++ [g.quota, g.high, g.low] ++ bytes16 g.openLong ++ [g.hostMask, g.keyMask, g.consume])
      [g.counterMode, g.interval, g.priority] g.modes
  have hbehind := byteAt_behind ([lane, write, g.confirmTones, g.inhibitOpen, g.strict] ++ bytes32 g.valueLimit ++
      bytes16 g.dupWindow ++ [g.quota, g.high, g.low] ++ bytes16 g.openLong ++ [g.hostMask, g.keyMask, g.consume])
      [g.counterMode, g.interval, g.priority] g.modes
  have hcounter := hbehind 0
  have hinterval := hbehind 1
  have hpriority := hbehind 2
  clear hbehind
  cases g
  simp only [laneSetFieldsOf, LaneSetFields.mk.injEq]
  exact ⟨rfl, rfl, rfl, hlimit, hwindow, rfl, rfl, rfl, hopenLong, rfl, rfl, rfl, hmodes, hcounter, hinterval,
    hpriority⟩

theorem ruleFieldsOf_bytes (index : Byte) (h : RuleFields) :
    ruleFieldsOf ([index, h.active, h.cls, h.minLen, h.maxLen, h.patLen] ++ h.pattern.toList ++
      [h.check, h.valuePresent, h.start, h.count, h.scale, h.action, h.tag]) = h := by
  have hpattern := ofFn_byteAt [index, h.active, h.cls, h.minLen, h.maxLen, h.patLen]
    [h.check, h.valuePresent, h.start, h.count, h.scale, h.action, h.tag] h.pattern
  have hbehind := byteAt_behind [index, h.active, h.cls, h.minLen, h.maxLen, h.patLen]
    [h.check, h.valuePresent, h.start, h.count, h.scale, h.action, h.tag] h.pattern
  have hcheck := hbehind 0
  have hvalue := hbehind 1
  have hstart := hbehind 2
  have hcount := hbehind 3
  have hscale := hbehind 4
  have haction := hbehind 5
  have htag := hbehind 6
  clear hbehind
  cases h
  simp only [ruleFieldsOf, RuleFields.mk.injEq]
  exact ⟨rfl, rfl, rfl, rfl, rfl, hpattern, hcheck, hvalue, hstart, hcount, hscale, haction, htag⟩

/-- Settles O47: the frame, the layouts of numbers, then row by row. -/
theorem aFrameOnTheLineIsItsRequest : Obligations.AFrameOnTheLineIsItsRequest := by
  unfold Obligations.AFrameOnTheLineIsItsRequest
  refine ⟨fun s kind tag payload rest hs hrx hlen hpending => ?frame, fun w x => ⟨bytes16_eq w, bytes32_eq x⟩,
    fun s tag lane a b c d f g h pad18 pad28 taken h18 h28 htaken => ?rows⟩
  case frame =>
    have hframe := core_run_frame (rest := rest) hs (kind := kind) (tag := tag) hlen
    have hstate : s.receiving ((hostFrame kind tag payload).map byteRow ++ rest) .reset = s := by
      rw [← hrx]
      exact hpending ▸ rfl
    have htaken : s.receiving rest .reset = { s with pending := rest } := by rw [← hrx]; rfl
    rwa [hstate, htaken] at hframe
  case rows =>
    have hspelled (k : RequestKind) {r : Request} (p : List Byte) (hlen : p.length = k.payloadLength)
        (hr : requestOf k p = r) : .next (s.request tag r) = taken k.byte p := by
      rw [htaken, ← hr]
      exact congrArg _ (s.takeRequest_spelled tag hlen).symm
    have hcfg := congrArg (Request.laneCfg lane 1) (laneCfgFieldsOf_bytes lane 1 f)
    have hset := congrArg (Request.laneSet lane 1) (laneSetFieldsOf_bytes lane 1 g)
    have hrule := congrArg (Request.rule a) (ruleFieldsOf_bytes a h)
    refine ⟨hspelled .ident [] rfl rfl, hspelled .status [lane] rfl rfl, hspelled .status [0xFF] rfl rfl, ?cfgRead,
      hspelled .laneCfg _ rfl hcfg, ?setRead, hspelled .laneSet _ (by simp [bytes32, bytes16]; rfl) hset,
      hspelled .keymap [lane, a, b, c] rfl rfl, hspelled .rule _ (by simp; rfl) hrule, hspelled .ruleQ [a] rfl rfl,
      hspelled .power [lane, 0] rfl rfl, hspelled .power [lane, 1] rfl rfl, hspelled .fetch [0xFF, a] rfl rfl,
      hspelled .fetch [lane, a] rfl rfl, hspelled .release [lane] rfl rfl, hspelled .flags [lane, a, b] rfl rfl,
      hspelled .inhibit [lane, 0] rfl rfl, hspelled .inhibit [lane, 1] rfl rfl, hspelled .tone [lane, a] rfl rfl,
      hspelled .counts [lane, a] rfl rfl, hspelled .check [lane, 0, a] rfl rfl, ?stop, ?insert,
      hspelled .unlock [] rfl rfl, hspelled .clrFault [lane] rfl rfl, hspelled .restart [] rfl rfl⟩
    case cfgRead =>
      have hlen : ([lane, 0] ++ pad18).length = RequestKind.laneCfg.payloadLength := by
        rw [List.length_append, h18]
        rfl
      exact (congrArg _ (s.request_cfgRead tag lane _ _)).trans (hspelled .laneCfg _ hlen rfl)
    case setRead =>
      have hlen : ([lane, 0] ++ pad28).length = RequestKind.laneSet.payloadLength := by
        rw [List.length_append, h28]
        rfl
      exact (congrArg _ (s.request_setRead tag lane _ _)).trans (hspelled .laneSet _ hlen rfl)
    case stop => exact (congrArg _ (s.request_checkStop tag lane 0 d)).trans (hspelled .check [lane, 1, d] rfl rfl)
    case insert => exact (congrArg _ (s.request_checkInsert tag lane 0 d)).trans (hspelled .check [lane, 2, d] rfl rfl)

end Sys2Proof.Machine
end

section
/-!
PROOFS. Device reset (section 10.6): its start from any state, its end, and the laws and values of the machine right after
it.
-/

namespace Sys2Proof.Machine

/-! ### The end of a reset -/

theorem LaneView.lockdownCut_same {v : LaneView} (h : v.ln.drawer.state ≠ .releasing) : v.lockdownCut = v := if_neg h

/-- A lockdown event that finds no pulse in progress sets the latch and raises the alarm (R127). -/
theorem State.lockdownEvent_idle {s : State} (h : ∀ l : LaneId, s.lanes[l].drawer.state ≠ .releasing) :
    s.lockdownEvent = s.latched :=
  State.lockdownEvent_keeps (P := fun t => t = s.latched) rfl fun {t} ht l => by
    rw [ht]
    exact State.onLane_same _ l _ (LaneView.lockdownCut_same (h l))

/-- The part at the end of a reset, before LKD is sampled as an event (R188 steps 2 to 4). -/
def State.restarted (s : State) : State :=
  { s with timeBase := 0, resetCause := s.resetSource, resetFlag := true, lkdLevel := s.lkdPin }

theorem State.endReset_deasserted {s : State} (h : s.lkdPin = false) : s.endReset = s.restarted := by
  unfold State.endReset
  rw [h, if_neg (by decide)]
  rw [State.restarted, h]

theorem State.endReset_asserted {s : State} (h : s.lkdPin = true)
    (hlanes : ∀ l : LaneId, s.lanes[l].drawer.state ≠ .releasing) : s.endReset = s.restarted.latched := by
  have hidle : s.restarted.lockdownEvent = s.restarted.latched := State.lockdownEvent_idle hlanes
  rw [← hidle, State.endReset, if_pos h]
  rfl

/-- Both levels of LKD at once: the latch, the alarm and ATTN follow an asserted level. -/
theorem State.endReset_idle {s : State} (hlanes : ∀ l : LaneId, s.lanes[l].drawer.state ≠ .releasing) :
    s.endReset =
      { s.restarted with
        lockdown := s.lockdown || s.lkdPin
        alarms := if s.lkdPin then raiseAlarm 0 .lockdown none s.alarms else s.alarms
        attn := s.attn || s.lkdPin } := by
  cases h : s.lkdPin with
  | false =>
    rw [State.endReset_deasserted h, Bool.or_false, Bool.or_false]
    rfl
  | true =>
    rw [State.endReset_asserted h hlanes, Bool.or_true, Bool.or_true]
    rfl

/-- Settles O50: the values of device reset, then the three ways one starts. -/
theorem resetStartsFromAnyState : Obligations.ResetStartsFromAnyState := by
  unfold Obligations.ResetStartsFromAnyState
  intro s
  have hidle (l : LaneId) : s.deviceReset.lanes[l].drawer.state ≠ .releasing := by
    rw [s.deviceReset_lanes]
    exact nofun
  have hrestart (hheld : s.held = false) (hpending : s.link.restartPending = true) (hreplies : s.link.replies = []) :
      exec .restartReset s = .next (State.endReset { s.deviceReset with resetSource := .restart }) := by
    show Host.Outcome.next (if !s.held && s.link.restartPending && decide (s.link.replies = []) then _ else s) = _
    rw [hheld, hpending, decide_eq_true hreplies]
    rfl
  refine ⟨s.deviceReset, fun l => s.deviceReset_lanes l, rfl, rfl, rfl, fun hheld hpending hreplies hpin => ?low,
    fun hheld hpending hreplies hpin => ?high, fun h => ?none⟩
  case low =>
    rw [hrestart hheld hpending hreplies,
      State.endReset_deasserted (s := { s.deviceReset with resetSource := .restart }) hpin]
    exact congrArg (fun p => Host.Outcome.next { s.deviceReset with
      resetSource := .restart, resetCause := .restart, resetFlag := true, lkdLevel := p }) hpin
  case high =>
    rw [hrestart hheld hpending hreplies,
      State.endReset_asserted (s := { s.deviceReset with resetSource := .restart }) hpin hidle]
    exact congrArg (fun p => Host.Outcome.next { s.deviceReset with
      resetSource := .restart, resetCause := .restart, resetFlag := true, lkdLevel := p, lockdown := true
      attn := true, alarms := [{ kind := .lockdown, lane := none, first := 0, last := 0, repeats := 1 }] }) hpin
  case none =>
    show Host.Outcome.next (if !s.held && s.link.restartPending && decide (s.link.replies = []) then _ else s) = _
    rw [if_neg]
    intro hall
    simp only [Bool.and_eq_true, Bool.not_eq_true', decide_eq_true_eq] at hall
    obtain ⟨⟨hheld, hpending⟩, hreplies⟩ := hall
    obtain h | h | h := h
    · exact absurd (h.symm.trans hheld) (by decide)
    · exact absurd (h.symm.trans hpending) (by decide)
    · exact h hreplies

/-- Settles O51: for each of the two holds, whether it is there and whether the other holds the part. -/
theorem resetEndsWhenNothingHolds : Obligations.ResetEndsWhenNothingHolds := by
  unfold Obligations.ResetEndsWhenNothingHolds
  intro s rate1 rate0 rate ended hrate hidle hended
  have hsampled : rate = rateOf rate1 rate0 := hrate
  have hpor (t : State) : exec (.powerOnResetEnd rate1 rate0) s = .next t ↔
      (if !s.porHold then s else
        if s.rstAsserted then State.sampleStraps { s with porHold := false } rate1 rate0
        else (State.sampleStraps { s with porHold := false } rate1 rate0).endReset) = t :=
    ⟨fun h => by injection h, congrArg _⟩
  have hrst (t : State) : exec (.rstRelease rate1 rate0) s = .next t ↔
      (if !s.rstAsserted then s else
        if s.porHold then State.sampleStraps { s with rstAsserted := false } rate1 rate0
        else (State.sampleStraps { s with rstAsserted := false } rate1 rate0).endReset) = t :=
    ⟨fun h => by injection h, congrArg _⟩
  subst hsampled hended
  refine ⟨fun hp => ?_, fun hp hr => ?_, fun hp hr => ?_, fun hr => ?_, fun hr hp => ?_, fun hr hp => ?_⟩
  · rw [hpor, hp]
    rfl
  · rw [hpor, hp, hr]
    rfl
  · rw [hpor, if_neg (by rw [hp]; decide), if_neg (by rw [hr]; decide)]
    exact State.endReset_idle (s := State.sampleStraps { s with porHold := false } rate1 rate0) hidle
  · rw [hrst, hr]
    rfl
  · rw [hrst, hp, hr]
    rfl
  · rw [hrst, if_neg (by rw [hr]; decide), if_neg (by rw [hp]; decide)]
    exact State.endReset_idle (s := State.sampleStraps { s with rstAsserted := false } rate1 rate0) hidle

/-! ### The machine right after reset -/

theorem State.reset_lanes (l : LaneId) : State.reset.lanes[l] = Lane.reset := by simp [State.reset]

theorem Lane.reset_keymap (p : KeyPos) : Lane.reset.keymap[p] = .normal := by simp [Lane.reset]

theorem KeyScanner.reset_cells (p : KeyPos) :
    KeyScanner.reset.cells[p] = { down := false, count := 0, mark := .none } := by simp [KeyScanner.reset]

theorem KeyScanner.reset_anyBlocked : KeyScanner.reset.anyBlocked = false := by
  simp [KeyScanner.anyBlocked, KeyScanner.reset]

/-- Nothing is down, and nothing is marked. -/
theorem Lane.keyLaw_of_reset {d : Lane} (h : d.keys = .reset) : d.KeyLaw := by
  rw [Lane.KeyLaw, h]
  refine ⟨Nat.zero_le _, List.nodup_nil, fun _ hp => (List.not_mem_nil hp).elim, fun p _ hdown => ?_, fun p _ => ?_,
    fun p _ => ?_, KeyScanner.reset_anyBlocked.symm, nofun, fun _ => rfl⟩
  · rw [KeyScanner.reset_cells] at hdown
    cases hdown
  all_goals rw [KeyScanner.reset_cells]
  exact ⟨rfl, rfl⟩

theorem Lane.reset_powerLaw : Lane.reset.PowerLaw ∧ Lane.reset.AtLocalReset :=
  ⟨⟨rfl, fun _ => ⟨rfl, rfl⟩, nofun, nofun, nofun⟩, rfl, rfl, rfl, rfl, rfl, rfl, rfl⟩

/-- The machine right after reset is a device reset of itself, which keeps the laws of device reset. -/
theorem State.reset_deviceReset : State.reset.deviceReset = State.reset := by
  have hlanes : (Vector.ofFn fun l : LaneId => State.reset.lanes[l].deviceReset) = State.reset.lanes := by
    apply Vector.ext
    intro i hi
    rw [Vector.getElem_ofFn, State.reset_lanes]
    exact (State.reset_lanes ⟨i, hi⟩).symm
  exact congrArg (fun lanes => { State.reset with lanes := lanes }) hlanes

/-- A law of each lane holds of the machine right after reset when it holds of the lane. -/
theorem State.reset_forall {P : LaneId → Lane → Prop} (h : ∀ l, P l Lane.reset) (l : LaneId) :
    P l State.reset.lanes[l] := by
  rw [State.reset_lanes]
  exact h l

/-- Settles O52: law by law, then the values of the part and of a lane. -/
theorem everyLawHoldsAtReset : Obligations.EveryLawHoldsAtReset := by
  unfold Obligations.EveryLawHoldsAtReset
  refine ⟨⟨?attn, ?pool, ?queue, ?alarms, ?drawer, ?power, ?keys, ?commands, ?scan, ?counters, ?settings, ?link⟩,
    ⟨rfl, rfl, rfl, rfl, rfl, rfl, rfl, rfl, rfl, rfl, rfl, fun i => ?rule⟩, fun l d hd => ?lane⟩
  case attn => exact State.reset_deviceReset ▸ State.AttnLaw.deviceReset State.reset
  case pool => exact State.reset_deviceReset ▸ State.reset.deviceReset_poolLaw
  case queue => exact State.reset_forall (P := fun l d => d.QueueLaw l) Lane.reset_queueLaw
  case alarms => exact ⟨List.nodup_nil, fun a ha => (List.not_mem_nil ha).elim, Nat.zero_le _⟩
  case drawer =>
    exact State.reset_forall
      (P := fun _ d => (d.drawer.drv = true ↔ d.drawer.state = .releasing) ∧
        (d.drawer.state = .releasing →
          d.on = true ∧ State.reset.lockdown = false ∧ d.drawer.fault = false ∧ d.drawer.pulse.isSome = true))
      fun _ => ⟨⟨nofun, nofun⟩, nofun⟩
  case power =>
    exact State.reset_forall (P := fun _ d => d.PowerLaw ∧ (d.on = false → d.AtLocalReset))
      fun _ => ⟨Lane.reset_powerLaw.1, fun _ => Lane.reset_powerLaw.2⟩
  case keys => exact State.reset_forall (P := fun _ d => d.KeyLaw) fun _ => Lane.keyLaw_of_reset rfl
  case commands => exact State.reset_forall (P := fun _ d => d.port.Queued) fun _ => .of_nil rfl
  case scan =>
    exact ⟨CodeRule.default_valid,
      State.reset_forall (P := fun _ d => d.port.rx.Law ∧ ∀ r ∈ d.queue.records, r.body.sound)
        fun _ => ⟨Receiver.Law.reset, fun _ hr => (List.not_mem_nil hr).elim⟩⟩
  case counters => exact State.reset_forall (P := fun _ d => d.counters.Bounded) fun _ => Counters.zero_bounded
  case settings =>
    exact State.reset_forall (P := fun _ d => d.cfg.InRange ∧ d.set.InRange) fun _ => Lane.reset_inRange
  case link => exact State.reset_deviceReset ▸ State.LinkLaw.deviceReset State.reset
  case rule => simp [State.reset, CodeRule.reset]
  case lane =>
    rw [State.reset_lanes] at hd
    subst hd
    exact ⟨rfl, rfl, rfl, rfl, rfl, rfl, rfl, rfl, rfl, rfl, rfl, rfl, rfl, rfl, rfl, Lane.reset_keymap,
      fun c => by cases c <;> rfl⟩

end Sys2Proof.Machine
end

section
/-!
PROOFS. The solenoid (sections 6.3, 6.4, 6.6): DRVn is energized in RELEASING alone, which stands in an ON lane with both
latches clear. Every event of a lane leaves its drawer idle or guarded, and a lockdown event leaves every drawer idle.
-/

namespace Sys2Proof.Machine

/-! ### What leaves the drawer alone -/

@[simp] theorem LaneView.setReasons_drawer (v : LaneView) (r : Reasons) :
    (v.setReasons r).ln.drawer = v.ln.drawer := by
  obtain ⟨p, hp, -⟩ := v.setReasons_eq r
  rw [hp]
  rfl

@[simp] theorem LaneView.offer_drawer (v : LaneView) (b : RecordBody) : (v.offer b).ln.drawer = v.ln.drawer :=
  (v.offer_frame b).ln.drawer

@[simp] theorem LaneView.handOver_drawer (v : LaneView) (c : Condition) (b : Bool) :
    (v.handOver c b).ln.drawer = v.ln.drawer := by
  obtain h | h | h := v.handOver_cases c b <;> rw [h]
  · rfl
  · exact (v.setLive c b).offer_drawer _

@[simp] theorem LaneView.alarm_ln (v : LaneView) (kind : AlarmKind) : (v.alarm kind).ln = v.ln := rfl

/-! ### The drawer after each operation of chapter 6 -/

section

variable (v : LaneView)

theorem LaneView.enterOpen_drawer :
    v.enterOpen.ln.drawer =
      { v.ln.drawer with
        state := .opened, openStart := some v.now, openLong := some (after v.now (v.ln.set.openLong * 1000)) } := by
  unfold LaneView.enterOpen
  dsimp only
  split
  · exact LaneView.setReasons_drawer _ _
  · rfl

theorem LaneView.offerDrawer_drawer (e : DrawerEvent) : (v.offerDrawer e).ln.drawer = v.ln.drawer := v.offer_drawer _

theorem LaneView.openFromAwait_drawer :
    v.openFromAwait.ln.drawer =
      { v.ln.drawer with
        confirm := none, state := .opened, openStart := some v.now
        openLong := some (after v.now (v.ln.set.openLong * 1000)) } := by
  rw [LaneView.openFromAwait, LaneView.offerDrawer_drawer, LaneView.enterOpen_drawer]
  rfl

theorem LaneView.closing_state : v.closing.ln.drawer.state = .closed ∧ v.closing.ln.drawer.drv = v.ln.drawer.drv := by
  unfold LaneView.closing LaneView.setDrawerReason
  dsimp only
  split <;> simp

end

/-! ### Idle and guarded drawers -/

/-- DRVn is off and the drawer is not RELEASING. -/
def Drawer.Idle (d : Drawer) : Prop := d.drv = false ∧ d.state ≠ .releasing

/-- The law of the solenoid for one lane (R113, R116). -/
def LaneView.Guarded (v : LaneView) : Prop :=
  (v.ln.drawer.drv = true ↔ v.ln.drawer.state = .releasing) ∧
    (v.ln.drawer.state = .releasing →
      v.ln.on = true ∧ v.lockdown = false ∧ v.ln.drawer.fault = false ∧ v.ln.drawer.pulse.isSome = true)

theorem Drawer.Idle.guarded {v : LaneView} (h : v.ln.drawer.Idle) : v.Guarded := by
  obtain ⟨hdrv, hstate⟩ := h
  refine ⟨⟨fun e => ?_, fun e => absurd e hstate⟩, fun e => absurd e hstate⟩
  rw [hdrv] at e
  cases e

/-- A drawer whose record of DRVn and state agree, in any state but RELEASING. -/
theorem Drawer.idle_of_state {d : Drawer} (h : d.drv = true ↔ d.state = .releasing) (hs : d.state ≠ .releasing) :
    d.Idle := ⟨Bool.of_not_eq_true fun e => hs (h.mp e), hs⟩

namespace LaneView.Guarded

variable {rules : Vector CodeRule 16} {T : LanePart → Prop} {u v : LaneView}

theorem idle (h : v.Guarded) (hs : v.ln.drawer.state ≠ .releasing) : v.ln.drawer.Idle := Drawer.idle_of_state h.1 hs

theorem idle_of_not_on (h : v.Guarded) (hon : v.ln.on = false) : v.ln.drawer.Idle :=
  h.idle fun e => by
    obtain ⟨hOn, -⟩ := h.2 e
    rw [hon] at hOn
    cases hOn

/-- The drawer, the lane state and the lockdown latch are all the law reads. -/
theorem congr (h : u.Guarded) (hdrawer : v.ln.drawer = u.ln.drawer) (hpower : v.ln.power = u.ln.power)
    (hlockdown : v.lockdown = u.lockdown) : v.Guarded := by
  rw [LaneView.Guarded, hdrawer, hlockdown, Lane.on, hpower]
  exact h

theorem moves (h : u.Guarded) (hm : u.Moves rules T v) (hdrawer : ¬T .drawer) (hpower : ¬T .power) : v.Guarded :=
  h.congr (hm.drawer_eq hdrawer) (hm.power_eq hpower) hm.outside_eq.2.2

theorem offer (h : v.Guarded) (b : RecordBody) : (v.offer b).Guarded :=
  have hf := v.offer_frame b
  h.congr hf.ln.drawer hf.ln.power hf.lockdown

end LaneView.Guarded

theorem Drawer.Idle.moves {rules : Vector CodeRule 16} {T : LanePart → Prop} {u v : LaneView} (h : u.ln.drawer.Idle)
    (hm : u.Moves rules T v) (hdrawer : ¬T .drawer) : v.ln.drawer.Idle := by
  rw [hm.drawer_eq hdrawer]
  exact h

/-! Operations that end with an idle drawer. -/

section

variable {v : LaneView}

theorem LaneView.enterOpen_idle (h : v.ln.drawer.drv = false) : v.enterOpen.ln.drawer.Idle := by
  rw [LaneView.enterOpen_drawer]
  exact ⟨h, nofun⟩

theorem LaneView.openFromAwait_idle (h : v.ln.drawer.drv = false) : v.openFromAwait.ln.drawer.Idle := by
  rw [LaneView.openFromAwait_drawer]
  exact ⟨h, nofun⟩

theorem LaneView.enterAwaitOpen_idle (h : v.ln.drawer.drv = false) : v.enterAwaitOpen.ln.drawer.Idle := by
  unfold LaneView.enterAwaitOpen
  dsimp only
  split
  · exact LaneView.openFromAwait_idle h
  · exact ⟨h, nofun⟩

theorem LaneView.closing_idle (h : v.ln.drawer.drv = false) : v.closing.ln.drawer.Idle := by
  obtain ⟨hstate, hdrv⟩ := v.closing_state
  exact ⟨hdrv.trans h, fun e => by rw [hstate] at e; cases e⟩

theorem LaneView.firstSense_idle (h : v.ln.drawer.drv = false) (level : Sense) :
    (v.firstSense level).ln.drawer.Idle := by
  cases level with
  | closed =>
    rw [LaneView.firstSense, LaneView.offerDrawer_drawer]
    exact ⟨h, nofun⟩
  | opened =>
    rw [LaneView.firstSense, LaneView.offerDrawer_drawer]
    exact LaneView.enterOpen_idle h

theorem LaneView.forcedOpening_idle (h : v.ln.drawer.drv = false) : v.forcedOpening.ln.drawer.Idle := by
  rw [LaneView.forcedOpening, LaneView.alarm_ln, LaneView.offerDrawer_drawer]
  exact LaneView.enterOpen_idle h

/-- Leaving a lane state puts the drawer at its lane-local reset. -/
theorem LaneView.leaveFor_idle (v : LaneView) (dest : LaneState) : (v.leaveFor dest).ln.drawer.Idle := by
  unfold LaneView.leaveFor
  dsimp only
  rw [LaneView.offer_drawer]
  exact ⟨rfl, nofun⟩

end

/-! ### Each event -/

namespace LaneView.Guarded

variable {v : LaneView}

theorem senseChange (h : v.Guarded) (level : Sense) : (v.senseChange level).Guarded := by
  have hidle (hs : v.ln.drawer.state ≠ .releasing) : v.ln.drawer.drv = false := (h.idle hs).1
  unfold LaneView.senseChange
  cases hs : v.ln.drawer.state with
  | unsensed => exact (LaneView.firstSense_idle (hidle (by rw [hs]; exact nofun)) level).guarded
  | releasing => exact h
  | closed =>
    cases level with
    | closed => exact h
    | opened => exact (LaneView.forcedOpening_idle (hidle (by rw [hs]; exact nofun))).guarded
  | awaitOpen =>
    cases level with
    | closed => exact h
    | opened => exact (LaneView.openFromAwait_idle (hidle (by rw [hs]; exact nofun))).guarded
  | opened | openLong =>
    cases level with
    | closed => exact (LaneView.closing_idle (hidle (by rw [hs]; exact nofun))).guarded
    | opened => exact h

theorem stabilityExpiry (h : v.Guarded) : v.stabilityExpiry.Guarded := by
  unfold LaneView.stabilityExpiry
  split
  · exact h
  · next st _ =>
    have hsensed : (v.setDrawer { v.ln.drawer with stability := none, sense := some st.level }).Guarded := h
    split
    · split
      · exact h
      · exact hsensed.senseChange st.level
    · exact h

theorem dsnChange (h : v.Guarded) (level : Sense) : (v.dsnChange level).Guarded := by
  unfold LaneView.dsnChange
  split <;> exact h

theorem pulseExpiry (h : v.Guarded) : v.pulseExpiry.Guarded := by
  unfold LaneView.pulseExpiry
  split
  · split
    · refine Drawer.Idle.guarded ?_
      rw [LaneView.offerDrawer_drawer]
      exact LaneView.enterOpen_idle rfl
    · exact (LaneView.enterAwaitOpen_idle rfl).guarded
  · exact h

theorem docAssert (h : v.Guarded) : v.docAssert.Guarded := by
  unfold LaneView.docAssert
  split
  · refine Drawer.Idle.guarded ?_
    rw [LaneView.handOver_drawer]
    exact LaneView.enterAwaitOpen_idle rfl
  · exact h

theorem confirmExpiry (h : v.Guarded) : v.confirmExpiry.Guarded := by
  unfold LaneView.confirmExpiry
  split
  · next hdue =>
    have hstate : v.ln.drawer.state = .awaitOpen := of_decide_eq_true (Bool.and_eq_true_iff.mp hdue).1
    refine Drawer.Idle.guarded ?_
    rw [LaneView.offerDrawer_drawer]
    exact ⟨(h.idle (by rw [hstate]; exact nofun)).1, nofun⟩
  · exact h

theorem openLongExpiry (h : v.Guarded) : v.openLongExpiry.Guarded := by
  unfold LaneView.openLongExpiry
  split
  · next hdue =>
    have hstate : v.ln.drawer.state = .opened := of_decide_eq_true (Bool.and_eq_true_iff.mp hdue).1
    refine Drawer.Idle.guarded ?_
    rw [LaneView.handOver_drawer, LaneView.offerDrawer_drawer]
    exact ⟨(h.idle (by rw [hstate]; exact nofun)).1, nofun⟩
  · exact h

theorem clearFault (h : v.Guarded) : v.clearFault.Guarded := by
  cases hf : v.ln.drawer.fault with
  | false => rwa [v.clearFault_clear hf]
  | true =>
    rw [v.clearFault_latched hf]
    have hidle : v.unlatched.ln.drawer.Idle :=
      h.idle fun e => by
        obtain ⟨-, -, hclear, -⟩ := h.2 e
        rw [hf] at hclear
        cases hclear
    refine Drawer.Idle.guarded ?_
    rw [LaneView.handOver_drawer]
    exact hidle

/-- The checks of a release are those the law asks for (R113). -/
theorem grant {mask : TestSet} (hdone : (v.releaseCheck mask).1 = .done) (source : ReleaseSource) :
    (v.grant source).Guarded := by
  have hchecked : v.ln.on = true ∧ v.lockdown = false ∧ v.ln.drawer.fault = false := by
    unfold LaneView.releaseCheck at hdone
    cases hon : v.ln.on <;> cases hl : v.lockdown <;> cases hf : v.ln.drawer.fault <;> simp [hon, hl, hf] at hdone ⊢
  obtain ⟨hon, hlockdown, hfault⟩ := hchecked
  have hgranted : (v.setDrawer
      { v.ln.drawer with
        flags := v.ln.drawer.flags &&& ~~~ v.ln.set.consume
        state := .releasing
        drv := true
        pulse := some (after v.now v.ln.cfg.pulse) }).Guarded :=
    ⟨⟨fun _ => rfl, fun _ => rfl⟩, fun _ => ⟨hon, hlockdown, hfault, rfl⟩⟩
  exact hgranted.offer _

theorem hostRelease (h : v.Guarded) : v.hostRelease.1.Guarded := by
  unfold LaneView.hostRelease
  dsimp only
  split
  · next hdone => exact grant hdone .host
  · exact h

theorem localAttempt (h : v.Guarded) : v.localAttempt.Guarded := by
  unfold LaneView.localAttempt
  dsimp only
  split
  · next hdone => exact grant hdone .key
  · exact h.offer _

theorem lockdownCut (h : v.Guarded) : v.lockdownCut.Guarded := by
  unfold LaneView.lockdownCut
  split
  · exact (LaneView.enterAwaitOpen_idle rfl).guarded
  · exact h

/-! Lane power. -/

theorem powerOff (h : v.Guarded) : v.powerOff.1.Guarded := by
  unfold LaneView.powerOff
  split
  case h_1 => exact h
  case h_3 =>
    split
    · exact h
    · exact (v.leaveFor_idle .off).guarded
  all_goals exact (v.leaveFor_idle .off).guarded

theorem powerOn (h : v.Guarded) : v.powerOn.1.Guarded := by
  unfold LaneView.powerOn
  split
  case h_1 hoff =>
    have hidle := h.idle_of_not_on (by rw [Lane.on, hoff]; rfl)
    refine Drawer.Idle.guarded ?_
    unfold LaneView.enterSettling
    dsimp only
    split
    · exact LaneView.leaveFor_idle _ .tripped
    · rw [LaneView.offer_drawer]
      exact hidle
  all_goals exact h

theorem pflTrip (h : v.Guarded) : (if v.ln.powered then v.trip else v).Guarded := by
  split
  · exact (LaneView.leaveFor_idle _ .tripped).guarded
  · exact h

/-- The conditions are evaluated without touching the drawer. -/
theorem evaluateConditions_drawer (v : LaneView) : v.evaluateConditions.ln.drawer = v.ln.drawer :=
  LaneView.Moves.drawer_eq (rules := Vector.replicate 16 .reset) (T := fun _ => False) (.evaluateConditions .refl)
    not_false

/-- Entering ON keeps DRVn off, and the drawer starts without a sensed state (R5 step 4). -/
theorem enterOn_idle (h : v.ln.drawer.drv = false) : v.enterOn.ln.drawer.Idle := by
  have hstarted : ((v.offer (.lane .on v.ln.power.progress)).startBlocks.evaluateConditions).ln.drawer.Idle := by
    rw [evaluateConditions_drawer]
    refine ⟨?_, nofun⟩
    show (v.offer (.lane .on v.ln.power.progress)).ln.drawer.drv = false
    rw [LaneView.offer_drawer]
    exact h
  unfold LaneView.enterOn
  generalize (v.offer (.lane .on v.ln.power.progress)).startBlocks.evaluateConditions = w at hstarted
  dsimp only
  split <;> exact hstarted

theorem passMilestone (h : v.Guarded) : v.passMilestone.Guarded := by
  have hpassed (x : PowerCtl) (hx : x.state = v.ln.power.state) : (v.setPower x).Guarded := by
    rw [LaneView.Guarded, Lane.on, LaneView.setPower_ln_power, hx]
    exact h
  have hentered (x : PowerCtl) (hs : v.ln.power.state = .settling) : (v.setPower x).enterOn.Guarded :=
    have hidle := h.idle_of_not_on (by rw [Lane.on, hs]; rfl)
    Drawer.Idle.guarded (enterOn_idle (v := v.setPower x) hidle.1)
  unfold LaneView.passMilestone
  split
  · dsimp only
    split
    · next hs => exact hentered _ hs.1
    · exact hpassed _ rfl
  · exact h

theorem settleExpiry (h : v.Guarded) : v.settleExpiry.Guarded := by
  unfold LaneView.settleExpiry
  split
  · exact h.passMilestone
  · exact h

/-! The key matrix: a press may make the local attempt, and nothing else of a sample touches the drawer. -/

variable {rules : Vector CodeRule 16}

theorem foldl {α : Type} {f : LaneView → α → LaneView} (hf : ∀ {x : LaneView} (a : α), x.Guarded → (f x a).Guarded)
    (as : List α) (h : v.Guarded) : (as.foldl f v).Guarded := by
  induction as generalizing v with
  | nil => exact h
  | cons a as ih => exact ih (hf a h)

theorem keyMoves (h : v.Guarded) {w : LaneView} (hm : v.Moves (Vector.replicate 16 .reset) (Eq .keys) w) : w.Guarded :=
  h.moves hm nofun nofun

theorem keyTaken (h : v.Guarded) (p : KeyPos) : (v.keyTaken p).Guarded := by
  unfold LaneView.keyTaken
  dsimp only
  split
  · exact localAttempt h
  · exact h

theorem pressKey (h : v.Guarded) (p : KeyPos) : (v.pressKey p).Guarded := by
  unfold LaneView.pressKey
  split
  · exact h
  · split
    · exact h
    · dsimp only
      split
      · exact (h.offer _).keyTaken p
      · exact h

theorem processSample (h : v.Guarded) (raw : BitVec 128) : (v.processSample raw).Guarded := by
  have hreleased (ups : List KeyPos) :
      ((ups.foldl LaneView.releaseKey (v.setKeys (v.ln.sampledKeys v.now raw))).afterReleases.keylockStage).Guarded :=
    h.keyMoves ((((Moves.setKeys .refl rfl _).foldl (fun p hx => hx.releaseKey rfl p) ups).afterReleases
      rfl).keylockStage rfl)
  have hpressed (ups downs : List KeyPos) := foldl (fun p hx => pressKey hx p) downs (hreleased ups)
  exact (hpressed _ _).keyMoves (.closeCounters (.statusStage .refl) _)

theorem sampleArrival (h : v.Guarded) (raw : BitVec 128) : (v.sampleArrival raw).Guarded := by
  unfold LaneView.sampleArrival
  split
  · exact h.processSample raw
  · exact h

end LaneView.Guarded

/-- Every event of a lane keeps its drawer guarded. -/
theorem LaneView.Guarded.event {rules : Vector CodeRule 16} {v w : LaneView} (h : v.Guarded) (hw : v.Event rules w) :
    w.Guarded := by
  have hquiet {w : LaneView} (hm : v.Moves rules (fun _ => False) w) : w.Guarded := h.moves hm not_false not_false
  cases hw with
  | same => exact h
  | quiet hon hm => exact hquiet hm
  | inhibitOff => exact hquiet (.setReasons .refl _)
  | counts clear => exact hquiet (.countsRequest .refl clear)
  | removeRecords n => exact hquiet (.removeRecords .refl n)
  | windowExpiry => exact hquiet (.windowExpiry .refl)
  | readSet => exact hquiet (.evalFlow .refl _)
  | storeSet x hx => exact hquiet (.storeSet .refl hx)
  | setPins x => exact h
  | setCfg hp x hx => exact h
  | setKeymap hp x => exact h
  | powerOn => exact h.powerOn
  | powerOff => exact h.powerOff
  | pflTrip => exact h.pflTrip
  | settleExpiry => exact h.settleExpiry
  | hostRelease => exact h.hostRelease
  | changeFlags setList clearList => exact h
  | clearFault => exact h.clearFault
  | dsnChange level => exact h.dsnChange level
  | stabilityExpiry => exact h.stabilityExpiry
  | pulseExpiry => exact h.pulseExpiry
  | docAssert => exact h.docAssert
  | confirmExpiry => exact h.confirmExpiry
  | openLongExpiry => exact h.openLongExpiry
  | lockdownCut => exact h.lockdownCut
  | sampleArrival raw => exact h.sampleArrival raw
  | typematicExpiry => exact h.keyMoves (.typematicExpiry .refl rfl)

/-! ### The lockdown event (R127) -/

section

variable (v : LaneView)

theorem LaneView.setReasons_quiet (r : Reasons) :
    (v.setReasons r).free = v.free ∧ (v.setReasons r).alarms = v.alarms ∧ (v.setReasons r).attn = v.attn := by
  obtain ⟨p, hp, -⟩ := v.setReasons_eq r
  rw [hp]
  exact ⟨rfl, rfl, rfl⟩

theorem LaneView.enterOpen_quiet :
    v.enterOpen.free = v.free ∧ v.enterOpen.alarms = v.alarms ∧ v.enterOpen.attn = v.attn := by
  unfold LaneView.enterOpen LaneView.setDrawerReason
  dsimp only
  split
  · exact LaneView.setReasons_quiet _ _
  · exact ⟨rfl, rfl, rfl⟩

theorem LaneView.openFromAwait_quiet :
    v.openFromAwait.free = v.free ∧ v.openFromAwait.alarms = v.alarms := by
  obtain ⟨hfree, halarms, -⟩ := (v.setDrawer { v.ln.drawer with confirm := none }).enterOpen_quiet
  obtain ⟨hoffer, hofferAlarms⟩ := (v.setDrawer { v.ln.drawer with confirm := none }).enterOpen.offer_quiet
    (.drawer .opened (v.setDrawer { v.ln.drawer with confirm := none }).enterOpen.ln.drawer.state none none none) rfl
  exact ⟨hoffer.trans hfree, hofferAlarms.trans halarms⟩

theorem LaneView.enterAwaitOpen_quiet :
    v.enterAwaitOpen.free = v.free ∧ v.enterAwaitOpen.alarms = v.alarms := by
  unfold LaneView.enterAwaitOpen
  dsimp only
  split
  · exact LaneView.openFromAwait_quiet _
  · exact ⟨rfl, rfl⟩

/-- Cutting a pulse takes no slot and raises no alarm, and ATTN stays where it is asserted. -/
theorem LaneView.lockdownCut_quiet :
    v.lockdownCut.free = v.free ∧ v.lockdownCut.alarms = v.alarms ∧ (v.attn = true → v.lockdownCut.attn = true) := by
  have hcut : v.lockdownCut.free = v.free ∧ v.lockdownCut.alarms = v.alarms := by
    unfold LaneView.lockdownCut
    split
    · exact v.cutPulse.enterAwaitOpen_quiet
    · exact ⟨rfl, rfl⟩
  obtain ⟨added, hattn, -⟩ := LaneView.Announced.lockdownCut (u := v) .refl
  exact ⟨hcut.1, hcut.2, fun h => by rw [hattn, h, Bool.true_or]⟩

end

/-- The part in the middle of a lockdown event: the lanes of `done` are cut, the others as they were. -/
structure State.CutIn (s : State) (done : List LaneId) (t : State) : Prop where
  outside : t = { s.latched with lanes := t.lanes }
  cut : ∀ l ∈ done, t.lanes[l] = (s.latched.view l).lockdownCut.ln
  uncut : ∀ l : LaneId, l ∉ done → t.lanes[l] = s.lanes[l]

theorem State.CutIn.next {s t : State} {done : List LaneId} (h : s.CutIn done t) {l : LaneId} (hl : l ∉ done) :
    s.CutIn (l :: done) (t.onLane l LaneView.lockdownCut) := by
  have hview : t.view l = s.latched.view l := by
    have hlane := h.uncut l hl
    rw [State.view, hlane, h.outside]
    rfl
  obtain ⟨hfree, halarms, hattn⟩ := (t.view l).lockdownCut_quiet
  refine ⟨?_, fun k hk => ?_, fun k hk => ?_⟩
  · have htattn : t.attn = true := by rw [h.outside]; rfl
    have hput : t.onLane l LaneView.lockdownCut = { t with lanes := (t.onLane l LaneView.lockdownCut).lanes } := by
      rw [State.onLane, State.put, hfree, halarms, hattn htattn, State.view_free, State.view_alarms, ← htattn]
    rw [hput, h.outside]
  · by_cases hkl : k = l
    · subst hkl
      rw [State.onLane_lanes_self, hview]
    · rw [State.onLane_lanes_other t l k _ hkl]
      exact h.cut k (List.mem_of_ne_of_mem hkl hk)
  · obtain ⟨hkl, hkd⟩ := not_or.mp (mt List.mem_cons.mpr hk)
    rw [State.onLane_lanes_other t l k _ hkl]
    exact h.uncut k hkd

/-- After a lockdown event each lane is as the cut leaves it, and of the rest the latch, the alarm queue and ATTN have
changed. -/
theorem State.lockdownEvent_cut (s : State) : ∃ done, (∀ l : LaneId, l ∈ done) ∧ s.CutIn done s.lockdownEvent := by
  have hlanes (ls done : List LaneId) (t : State) (hnodup : ls.Nodup) (hdisjoint : ∀ l ∈ ls, l ∉ done)
      (ht : s.CutIn done t) :
      ∃ all, (∀ l, l ∈ ls ∨ l ∈ done → l ∈ all) ∧
        s.CutIn all (ls.foldl (fun t l => t.onLane l LaneView.lockdownCut) t) := by
    induction ls generalizing done t with
    | nil => exact ⟨done, fun l hl => hl.resolve_left List.not_mem_nil, ht⟩
    | cons l ls ih =>
      obtain ⟨hl, hls⟩ := List.nodup_cons.mp hnodup
      obtain ⟨hldone, hlsdone⟩ := List.forall_mem_cons.mp hdisjoint
      obtain ⟨all, hall, hcut⟩ := ih (l :: done) _ hls
        (fun k hk => fun e => (List.mem_cons.mp e).elim (fun e => hl (e ▸ hk)) (hlsdone k hk)) (ht.next hldone)
      refine ⟨all, fun k hk => hall k ?_, hcut⟩
      simp only [List.mem_cons] at hk ⊢
      tauto
  have hstart : s.CutIn [] s.latched := ⟨rfl, fun l hl => (List.not_mem_nil hl).elim, fun _ _ => rfl⟩
  obtain ⟨all, hall, hcut⟩ := hlanes (List.finRange 8) [] s.latched (List.nodup_finRange 8)
    (fun _ _ => List.not_mem_nil) hstart
  exact ⟨all, fun l => hall l (.inl (List.mem_finRange l)), hcut⟩

theorem State.lockdownEvent_lanes (s : State) (l : LaneId) :
    s.lockdownEvent.lanes[l] = (s.latched.view l).lockdownCut.ln := by
  obtain ⟨done, hall, hcut⟩ := s.lockdownEvent_cut
  exact hcut.cut l (hall l)

/-- Of the part outside the lanes a lockdown event changes the latch, the alarm queue and ATTN. -/
theorem State.lockdownEvent_eq (s : State) :
    s.lockdownEvent = { s.latched with lanes := s.lockdownEvent.lanes } := by
  obtain ⟨done, -, hcut⟩ := s.lockdownEvent_cut
  exact hcut.outside

theorem State.lockdownEvent_drawerLaw {s : State} (h : s.DrawerLaw) : s.lockdownEvent.DrawerLaw := by
  intro l
  have hidle : s.lockdownEvent.lanes[l].drawer.Idle := by
    rw [s.lockdownEvent_lanes]
    unfold LaneView.lockdownCut
    split
    · exact LaneView.enterAwaitOpen_idle rfl
    · next hs => exact Drawer.idle_of_state (h l).1 hs
  exact Drawer.Idle.guarded (v := s.lockdownEvent.view l) hidle

/-- Settles O56: every event of a lane keeps its drawer guarded, and a lockdown event leaves every drawer idle. -/
theorem theSolenoidIsGuarded : Obligations.TheSolenoidIsGuarded := by
  unfold Obligations.TheSolenoidIsGuarded
  intro s t h hstep
  have hkept : State.Kept State.DrawerLaw :=
    { outside := fun h hlanes _ _ _ hlockdown => by
        rw [State.DrawerLaw, hlanes, hlockdown]
        exact h
      lane := fun {s} h l _ hw => by
        have hguarded : (s.view l).Guarded := h l
        have hlaw := hguarded.event hw
        rw [LaneView.Guarded, hw.moves.outside_eq.2.2] at hlaw
        exact State.put_forall
          (P := fun _ d => (d.drawer.drv = true ↔ d.drawer.state = .releasing) ∧
            (d.drawer.state = .releasing →
              d.on = true ∧ s.lockdown = false ∧ d.drawer.fault = false ∧ d.drawer.pulse.isSome = true)) h hlaw
      rule := fun h _ _ _ => h
      alarmsTaken := fun h _ => h
      unlock := fun h l => ⟨(h l).1, fun hs =>
        have ⟨hon, _, hfault, hpulse⟩ := (h l).2 hs
        ⟨hon, rfl, hfault, hpulse⟩⟩
      lockdown := State.lockdownEvent_drawerLaw
      reset := fun s l => by
        rw [s.deviceReset_lanes]
        exact ⟨⟨nofun, nofun⟩, nofun⟩ }
  exact hkept.step h hstep

end Sys2Proof.Machine
end

section
/-!
PROOFS. The keyboard (sections 2.3 to 2.6): the down list, the marks, rollover and the typematic timer. In the middle of a
sample some positions that flipped up or down are still to be handled; the law holds but for them.
-/

namespace Sys2Proof.Machine

/-! ### Marks -/

theorem KeyScanner.setMark_cells (k : KeyScanner) (p q : KeyPos) (m : KeyMark) :
    (k.setMark p m).cells[q] = if q = p then { k.cells[p] with mark := m } else k.cells[q] := by
  by_cases h : q = p
  · subst h
    simp [KeyScanner.setMark]
  · have hne : (p : Nat) ≠ (q : Nat) := fun e => h (Fin.ext e.symm)
    simp [KeyScanner.setMark, Vector.getElem_set_ne, hne, h]

theorem KeyScanner.setMark_self (k : KeyScanner) (p : KeyPos) (m : KeyMark) :
    (k.setMark p m).cells[p] = { k.cells[p] with mark := m } := by rw [k.setMark_cells, if_pos rfl]

theorem KeyScanner.setMark_other (k : KeyScanner) {p q : KeyPos} (m : KeyMark) (h : q ≠ p) :
    (k.setMark p m).cells[q] = k.cells[q] := by rw [k.setMark_cells, if_neg h]

theorem KeyScanner.setMark_down (k : KeyScanner) (p q : KeyPos) (m : KeyMark) :
    (k.setMark p m).cells[q].down = k.cells[q].down ∧ (k.setMark p m).cells[q].count = k.cells[q].count := by
  rw [k.setMark_cells]
  split
  · next h => rw [h]; exact ⟨rfl, rfl⟩
  · exact ⟨rfl, rfl⟩

theorem KeyScanner.anyBlocked_iff (k : KeyScanner) :
    k.anyBlocked = true ↔ ∃ p : KeyPos, k.cells[p].mark = .blocked := by
  rw [KeyScanner.anyBlocked, Vector.any_toList, Vector.any_eq_true]
  constructor
  · rintro ⟨i, hi, h⟩
    exact ⟨⟨i, hi⟩, of_decide_eq_true h⟩
  · rintro ⟨p, h⟩
    exact ⟨p.val, p.isLt, decide_eq_true h⟩

/-- Blocked positions are those of another scanner with the same blocked marks. -/
theorem KeyScanner.anyBlocked_congr {k m : KeyScanner}
    (h : ∀ p : KeyPos, k.cells[p].mark = .blocked ↔ m.cells[p].mark = .blocked) : k.anyBlocked = m.anyBlocked := by
  rw [Bool.eq_iff_iff, k.anyBlocked_iff, m.anyBlocked_iff]
  exact exists_congr h

/-! ### The law of the keys, but for the flips still to be handled -/

/-- The law of the down list, the marks and the typematic timer (R22, R26 to R33), where the positions of `ups` have flipped
up and those of `downs` have flipped down without being handled yet. -/
structure KeyScanner.Midway (keymap : Vector KeyAttr 128) (k : KeyScanner) (ups downs : List KeyPos) : Prop where
  length : k.downList.length ≤ 6
  nodup : k.downList.Nodup
  listed : ∀ p ∈ k.downList, keymap[p].isKey = true ∧ k.cells[p].mark = .none ∧ (k.cells[p].down = true ∨ p ∈ ups)
  marked : ∀ p : KeyPos, keymap[p].isKey = true → k.cells[p].down = true → p ∉ k.downList → p ∉ downs →
    k.cells[p].mark ≠ .none
  unmarked : ∀ p : KeyPos, keymap[p].isKey = false ∨ k.cells[p].down = false → p ∉ ups → k.cells[p].mark = .none
  up : ∀ p ∈ ups, keymap[p].isKey = true ∧ k.cells[p].down = false
  down : ∀ p ∈ downs,
    keymap[p].isKey = true ∧ k.cells[p].down = true ∧ p ∉ k.downList ∧ k.cells[p].mark = .none
  unused : ∀ p : KeyPos, keymap[p] = .unused → k.cells[p].down = false ∧ k.cells[p].count = 0
  serves : ∀ t ∈ k.typematic, k.downList.getLast? = some t.pos

namespace KeyScanner.Midway

variable {keymap : Vector KeyAttr 128} {k : KeyScanner} {ups downs : List KeyPos} {p : KeyPos}

/-- The parts the law does not read. -/
theorem congr (h : k.Midway keymap ups downs) {m : KeyScanner} (hcells : m.cells = k.cells)
    (hlist : m.downList = k.downList) (htyp : ∀ t ∈ m.typematic, t ∈ k.typematic) : m.Midway keymap ups downs := by
  obtain ⟨hlen, hnodup, hlisted, hmarked, hunmarked, hup, hdown, hunused, hserves⟩ := h
  constructor
  all_goals simp only [hcells, hlist]
  all_goals try assumption
  exact fun t ht => hserves t (htyp t ht)

/-! A release (R30). -/

theorem stopServing_typematic {p : KeyPos} {t : Typematic} (h : t ∈ (k.stopServing p).typematic) :
    t ∈ k.typematic ∧ t.pos ≠ p := by
  unfold KeyScanner.stopServing at h
  cases htyp : k.typematic with
  | none =>
    rw [htyp] at h
    rw [htyp] at h
    cases h
  | some u =>
    rw [htyp] at h
    dsimp only at h
    split at h
    · cases h
    · next hne =>
      rw [htyp] at h
      cases h
      exact ⟨rfl, hne⟩

theorem stopServing_same (k : KeyScanner) (p : KeyPos) :
    (k.stopServing p).cells = k.cells ∧ (k.stopServing p).downList = k.downList ∧
      (k.stopServing p).rollover = k.rollover := by
  unfold KeyScanner.stopServing
  split
  · split <;> exact ⟨rfl, rfl, rfl⟩
  · exact ⟨rfl, rfl, rfl⟩

/-- Another position taken out of a list leaves its last. -/
theorem getLast?_erase {xs : List KeyPos} {p q : KeyPos} (h : xs.getLast? = some q) (hne : q ≠ p) :
    (xs.erase p).getLast? = some q := by
  obtain ⟨ys, rfl⟩ := List.getLast?_eq_some_iff.mp h
  by_cases hp : p ∈ ys
  · rw [List.erase_append_left _ hp, List.getLast?_append]
    rfl
  · rw [List.erase_append_right _ hp, List.erase_of_not_mem (by simpa using hne.symm), List.getLast?_append]
    rfl

/-- A listed position that flipped up leaves the list. -/
theorem release_listed (h : k.Midway keymap (p :: ups) downs) (hp : p ∈ k.downList) :
    (KeyScanner.stopServing { k with downList := k.downList.erase p } p).Midway keymap ups downs := by
  obtain ⟨hcells, hlist, -⟩ := stopServing_same { k with downList := k.downList.erase p } p
  have hmem {q : KeyPos} (hq : q ∈ k.downList.erase p) : q ≠ p ∧ q ∈ k.downList := h.nodup.mem_erase_iff.mp hq
  have hunlisted {q : KeyPos} (hq : q ∉ k.downList.erase p) (hne : q ≠ p) : q ∉ k.downList :=
    fun e => hq (h.nodup.mem_erase_iff.mpr ⟨hne, e⟩)
  have hpup := (h.up p List.mem_cons_self).2
  constructor
  all_goals simp only [hcells, hlist]
  case length => exact (List.length_erase_le).trans h.length
  case nodup => exact h.nodup.erase p
  case listed =>
    intro q hq
    obtain ⟨hne, hqk⟩ := hmem hq
    obtain ⟨hkey, hmark, hdown⟩ := h.listed q hqk
    exact ⟨hkey, hmark, hdown.imp_right fun e => (List.mem_cons.mp e).resolve_left hne⟩
  case marked =>
    intro q hkey hdown hq
    refine h.marked q hkey hdown (hunlisted hq ?_)
    rintro rfl
    rw [hpup] at hdown
    cases hdown
  case unmarked =>
    intro q hq hups
    by_cases hqp : q = p
    · subst hqp
      exact (h.listed q hp).2.1
    · exact h.unmarked q hq fun e => (List.mem_cons.mp e).elim hqp hups
  case up => exact fun q hq => h.up q (List.mem_cons_of_mem p hq)
  case down =>
    intro q hq
    obtain ⟨hkey, hdown, hlisted, hmark⟩ := h.down q hq
    exact ⟨hkey, hdown, fun e => hlisted (hmem e).2, hmark⟩
  case unused => exact h.unused
  case serves =>
    intro t ht
    obtain ⟨htyp, hne⟩ := stopServing_typematic ht
    exact getLast?_erase (h.serves t htyp) hne

/-- Any other position that flipped up loses its mark. -/
theorem release_unlisted (h : k.Midway keymap (p :: ups) downs) (hp : p ∉ k.downList) :
    (k.setMark p .none).Midway keymap ups downs := by
  have hpup := h.up p List.mem_cons_self
  have hother {q : KeyPos} (hq : q ∈ k.downList) : q ≠ p := fun e => hp (e ▸ hq)
  constructor
  case length => exact h.length
  case nodup => exact h.nodup
  case listed =>
    intro q hq
    obtain ⟨hkey, hmark, hdown⟩ := h.listed q hq
    rw [k.setMark_other _ (hother hq)]
    exact ⟨hkey, hmark, hdown.imp_right fun e => (List.mem_cons.mp e).resolve_left (hother hq)⟩
  case marked =>
    intro q hkey hdown hq hqd
    have hne : q ≠ p := by
      rintro rfl
      rw [k.setMark_self, hpup.2] at hdown
      cases hdown
    rw [k.setMark_other _ hne] at hdown ⊢
    exact h.marked q hkey hdown hq hqd
  case unmarked =>
    intro q hq hups
    by_cases hqp : q = p
    · subst hqp
      rw [k.setMark_self]
    · rw [k.setMark_other _ hqp] at hq ⊢
      exact h.unmarked q hq fun e => (List.mem_cons.mp e).elim hqp hups
  case up =>
    intro q hq
    rw [(k.setMark_down p q .none).1]
    exact h.up q (List.mem_cons_of_mem p hq)
  case down =>
    intro q hq
    obtain ⟨hkey, hdown, hlisted, hmark⟩ := h.down q hq
    have hne : q ≠ p := by
      rintro rfl
      rw [hpup.2] at hdown
      cases hdown
    rw [k.setMark_other _ hne]
    exact ⟨hkey, hdown, hlisted, hmark⟩
  case unused =>
    intro q hq
    obtain ⟨hdown, hcount⟩ := k.setMark_down p q .none
    rw [hdown, hcount]
    exact h.unused q hq
  case serves => exact h.serves

/-! A press (R28). -/

/-- A position that flipped down and does not join the list takes a mark. -/
theorem press_marked (h : k.Midway keymap [] (p :: downs)) (hp : p ∉ downs) {m : KeyMark} (hm : m ≠ .none) :
    (k.setMark p m).Midway keymap [] downs := by
  obtain ⟨hkeyp, hdownp, hlistp, hmarkp⟩ := h.down p List.mem_cons_self
  have hother {q : KeyPos} (hq : q ∈ k.downList) : q ≠ p := fun e => hlistp (e ▸ hq)
  constructor
  case length => exact h.length
  case nodup => exact h.nodup
  case listed =>
    intro q hq
    rw [k.setMark_other _ (hother hq)]
    exact h.listed q hq
  case marked =>
    intro q hkey hdown hq hqd
    by_cases hqp : q = p
    · subst hqp
      rw [k.setMark_self]
      exact hm
    · rw [k.setMark_other _ hqp] at hdown ⊢
      exact h.marked q hkey hdown hq fun e => (List.mem_cons.mp e).elim hqp hqd
  case unmarked =>
    intro q hq hups
    have hne : q ≠ p := by
      rintro rfl
      rw [(k.setMark_down q q m).1, hkeyp, hdownp] at hq
      simp at hq
    rw [k.setMark_other _ hne] at hq ⊢
    exact h.unmarked q hq hups
  case up => exact fun q hq => (List.not_mem_nil hq).elim
  case down =>
    intro q hq
    have hne : q ≠ p := fun e => hp (e ▸ hq)
    rw [k.setMark_other _ hne]
    exact h.down q (List.mem_cons_of_mem p hq)
  case unused =>
    intro q hq
    obtain ⟨hdown, hcount⟩ := k.setMark_down p q m
    rw [hdown, hcount]
    exact h.unused q hq
  case serves => exact h.serves

/-- A position that flipped down and joins the list, the typematic timer serving it or stopped. -/
theorem press_joined (h : k.Midway keymap [] (p :: downs)) (hp : p ∉ downs) (hroom : k.downList.length < 6)
    {typematic : Option Typematic} (htyp : ∀ t ∈ typematic, t.pos = p) :
    KeyScanner.Midway keymap { k with downList := k.downList ++ [p], typematic := typematic } [] downs := by
  obtain ⟨hkeyp, hdownp, hlistp, hmarkp⟩ := h.down p List.mem_cons_self
  have hmem {q : KeyPos} : q ∈ k.downList ++ [p] ↔ q ∈ k.downList ∨ q = p := by simp
  constructor
  case length =>
    rw [List.length_append, List.length_singleton]
    exact hroom
  case nodup => exact List.nodup_append.mpr ⟨h.nodup, by simp, fun a ha b hb => by
      rw [List.mem_singleton.mp hb]
      exact fun e => hlistp (e ▸ ha)⟩
  case listed =>
    intro q hq
    obtain hq | rfl := hmem.mp hq
    · exact h.listed q hq
    · exact ⟨hkeyp, hmarkp, .inl hdownp⟩
  case marked =>
    intro q hkey hdown hq hqd
    obtain ⟨hqk, hqp⟩ := not_or.mp (mt hmem.mpr hq)
    exact h.marked q hkey hdown hqk fun e => (List.mem_cons.mp e).elim hqp hqd
  case unmarked => exact h.unmarked
  case up => exact fun q hq => (List.not_mem_nil hq).elim
  case down =>
    intro q hq
    obtain ⟨hkey, hdown, hlisted, hmark⟩ := h.down q (List.mem_cons_of_mem p hq)
    exact ⟨hkey, hdown, fun e => (hmem.mp e).elim hlisted fun e => hp (e ▸ hq), hmark⟩
  case unused => exact h.unused
  case serves =>
    intro t ht
    rw [htyp t ht, List.getLast?_append]
    rfl

end KeyScanner.Midway

/-! ### The stages of a sample (R18) -/

/-- In the middle of a sample: the law of the keys but for the flips left, and a rollover status that covers every blocked
position. -/
structure LaneView.Midway (v : LaneView) (ups downs : List KeyPos) : Prop where
  keys : v.ln.keys.Midway v.ln.keymap ups downs
  rollover : v.ln.keys.anyBlocked = true → v.ln.keys.rollover = true

/-- The keys and the keymap are all it reads. -/
theorem LaneView.Midway.moves {rules : Vector CodeRule 16} {T : LanePart → Prop} {u v : LaneView} {ups downs : List KeyPos}
    (h : u.Midway ups downs) (hm : u.Moves rules T v) (hkeys : ¬T .keys) (hkeymap : ¬T .keymap) : v.Midway ups downs := by
  obtain ⟨hlaw, hroll⟩ := h
  constructor
  · rwa [hm.keys_eq hkeys, hm.keymap_eq hkeymap]
  · rwa [hm.keys_eq hkeys]

@[simp] theorem LaneView.offer_keys (v : LaneView) (b : RecordBody) : (v.offer b).ln.keys = v.ln.keys :=
  (v.offer_frame b).ln.keys

@[simp] theorem LaneView.offer_keymap (v : LaneView) (b : RecordBody) : (v.offer b).ln.keymap = v.ln.keymap :=
  (v.offer_frame b).ln.keymap

namespace LaneView.Midway

variable {v : LaneView} {p : KeyPos} {ups downs : List KeyPos}

theorem offer (h : v.Midway ups downs) (b : RecordBody) : (v.offer b).Midway ups downs := by
  obtain ⟨hlaw, hroll⟩ := h
  constructor
  · rwa [LaneView.offer_keys, LaneView.offer_keymap]
  · rwa [LaneView.offer_keys]

/-- Marking a position blocked or clearing a mark adds no other blocked position. -/
theorem setMark_anyBlocked (k : KeyScanner) (p : KeyPos) {m : KeyMark} (hm : m ≠ .blocked)
    (h : (k.setMark p m).anyBlocked = true) : k.anyBlocked = true := by
  rw [KeyScanner.anyBlocked_iff] at h ⊢
  obtain ⟨q, hq⟩ := h
  refine ⟨q, ?_⟩
  by_cases hqp : q = p
  · subst hqp
    rw [k.setMark_self] at hq
    exact absurd hq hm
  · rwa [k.setMark_other _ hqp] at hq

theorem releaseKey (h : v.Midway (p :: ups) downs) : (v.releaseKey p).Midway ups downs := by
  obtain ⟨hlaw, hroll⟩ := h
  unfold LaneView.releaseKey
  split
  · next hp =>
    obtain ⟨hcells, -, hsame⟩ := KeyScanner.Midway.stopServing_same
      { v.ln.keys with downList := v.ln.keys.downList.erase p } p
    refine offer ⟨hlaw.release_listed hp, ?_⟩ _
    rw [LaneView.setKeys_ln_keys, KeyScanner.anyBlocked, hcells, hsame]
    exact hroll
  · next hp => exact ⟨hlaw.release_unlisted hp, fun e => hroll (setMark_anyBlocked _ p (m := .none) nofun e)⟩

theorem releases (h : v.Midway ups downs) : (ups.foldl LaneView.releaseKey v).Midway [] downs := by
  induction ups generalizing v with
  | nil => exact h
  | cons p ups ih => exact ih h.releaseKey

end LaneView.Midway

/-- The law of the keys after the releases: rollover holds exactly while a position is blocked (R30). -/
structure LaneView.Settled (v : LaneView) (downs : List KeyPos) : Prop where
  keys : v.ln.keys.Midway v.ln.keymap [] downs
  rollover : v.ln.keys.rollover = v.ln.keys.anyBlocked

namespace LaneView.Settled

variable {v : LaneView} {p : KeyPos} {downs : List KeyPos}

theorem moves {rules : Vector CodeRule 16} {T : LanePart → Prop} {u v : LaneView} {downs : List KeyPos}
    (h : u.Settled downs) (hm : u.Moves rules T v) (hkeys : ¬T .keys) (hkeymap : ¬T .keymap) : v.Settled downs := by
  obtain ⟨hlaw, hroll⟩ := h
  constructor
  · rwa [hm.keys_eq hkeys, hm.keymap_eq hkeymap]
  · rwa [hm.keys_eq hkeys]

theorem offer (h : v.Settled downs) (b : RecordBody) : (v.offer b).Settled downs := by
  obtain ⟨hlaw, hroll⟩ := h
  constructor
  · rwa [LaneView.offer_keys, LaneView.offer_keymap]
  · rwa [LaneView.offer_keys]

theorem of_released (h : v.Midway [] downs) : v.afterReleases.Settled downs := by
  obtain ⟨hlaw, hroll⟩ := h
  refine ⟨hlaw.congr rfl rfl fun _ ht => ht, ?_⟩
  show (v.ln.keys.rollover && v.ln.keys.anyBlocked) = v.ln.keys.anyBlocked
  cases hblocked : v.ln.keys.anyBlocked with
  | false => exact Bool.and_false _
  | true => rw [hroll hblocked]; rfl

theorem keylockStage (h : v.Settled downs) : v.keylockStage.Settled downs := by
  obtain ⟨hlaw, hroll⟩ := h
  unfold LaneView.keylockStage
  dsimp only
  split
  · exact ⟨hlaw.congr rfl rfl fun _ ht => ht, hroll⟩
  · refine offer ?_ _
    split
    · exact ⟨hlaw.congr rfl rfl nofun, hroll⟩
    · exact ⟨hlaw.congr rfl rfl fun _ ht => ht, hroll⟩

/-- A mark other than "blocked" put on an unmarked position blocks nothing more and nothing less. -/
theorem setMark_rollover {k : KeyScanner} (hroll : k.rollover = k.anyBlocked) (hp : k.cells[p].mark = .none)
    {m : KeyMark} (hm : m ≠ .blocked) : (k.setMark p m).rollover = (k.setMark p m).anyBlocked := by
  refine hroll.trans (KeyScanner.anyBlocked_congr fun q => ?_)
  by_cases hqp : q = p
  · subst hqp
    rw [k.setMark_self, hp]
    exact ⟨nofun, fun e => absurd e hm⟩
  · rw [k.setMark_other _ hqp]

/-- A position marked blocked makes rollover hold (R28). -/
theorem setMark_blocked (k : KeyScanner) (p : KeyPos) : (k.setMark p .blocked).anyBlocked = true := by
  rw [KeyScanner.anyBlocked_iff]
  exact ⟨p, by rw [k.setMark_self]⟩

theorem joinTypematic_pos {t : Typematic} (ht : t ∈ v.joinTypematic p) : t.pos = p := by
  unfold LaneView.joinTypematic at ht
  split at ht
  · cases ht
    rfl
  · cases ht

theorem keyTaken (h : v.Settled (p :: downs)) (hp : p ∉ downs) (hroom : v.ln.keys.downList.length < 6) :
    (v.keyTaken p).Settled downs := by
  obtain ⟨hlaw, hroll⟩ := h
  have hjoined : LaneView.Settled
      ((v.setKeys { v.ln.keys with downList := v.ln.keys.downList ++ [p], typematic := v.joinTypematic p }).setFilter
        .cleared) downs :=
    ⟨hlaw.press_joined hp hroom fun _ ht => joinTypematic_pos ht, hroll⟩
  unfold LaneView.keyTaken
  dsimp only
  split
  · exact hjoined.moves (T := Eq .drawer) (rules := Vector.replicate 16 .reset) (.localAttempt .refl rfl) nofun nofun
  · exact hjoined

theorem pressKey (h : v.Settled (p :: downs)) (hp : p ∉ downs) : (v.pressKey p).Settled downs := by
  have hlaw := h.keys
  have hroll := h.rollover
  obtain ⟨-, -, -, hmark⟩ := hlaw.down p List.mem_cons_self
  have hunreported : (v.setKeys (v.ln.keys.setMark p .unreported)).Settled downs :=
    ⟨hlaw.press_marked hp nofun, setMark_rollover hroll hmark nofun⟩
  unfold LaneView.pressKey
  split
  · exact hunreported
  · split
    · refine ⟨(hlaw.press_marked hp (m := .blocked) nofun).congr rfl rfl fun _ ht => ht, ?_⟩
      exact (setMark_blocked v.ln.keys p).symm
    · next hfull =>
      have hroom : v.ln.keys.downList.length < 6 := Nat.not_le.mp hfull
      dsimp only
      split
      · exact (h.offer _).keyTaken hp (by rwa [LaneView.offer_keys])
      · exact ⟨hunreported.keys, hunreported.rollover⟩

theorem presses (h : v.Settled downs) (hnodup : downs.Nodup) : (downs.foldl LaneView.pressKey v).Settled [] := by
  induction downs generalizing v with
  | nil => exact h
  | cons p downs ih =>
    obtain ⟨hp, hrest⟩ := List.nodup_cons.mp hnodup
    exact ih (h.pressKey hp) hrest

end LaneView.Settled

/-! ### Debouncing (R22 to R25) -/

theorem Lane.debounced_cell (d : Lane) (raw : BitVec 128) (p : KeyPos) :
    (d.debounced raw)[p] =
      debounce d.keymap[p] d.cfg.debounce (ambiguous (d.cfg.rawDown raw)) (d.cfg.rawDown raw p) d.keys.cells[p] := by
  simp [Lane.debounced]

theorem debounce_mark (attr : KeyAttr) (n : Nat) (amb raw : Bool) (c : KeyCell) :
    (debounce attr n amb raw c).mark = c.mark := by
  unfold debounce
  split
  · rfl
  · split
    · rfl
    · split
      · rfl
      · split <;> rfl

theorem debounce_unused (n : Nat) (amb raw : Bool) (c : KeyCell) : debounce .unused n amb raw c = c := if_pos rfl

theorem Lane.mem_flips (d : Lane) (cells : Vector KeyCell 128) (down : Bool) (p : KeyPos) :
    p ∈ d.flips cells down ↔
      d.keymap[p].isKey = true ∧ d.keys.cells[p].down = !down ∧ cells[p].down = down := by
  unfold Lane.flips positions
  rw [List.mem_filter]
  cases d.keymap[p].isKey <;> cases d.keys.cells[p].down <;> cases cells[p].down <;> cases down <;>
    simp [List.mem_finRange]

theorem Lane.flips_nodup (d : Lane) (cells : Vector KeyCell 128) (down : Bool) : (d.flips cells down).Nodup :=
  (List.nodup_finRange 128).filter _

/-- The law of the keys, the marks and the typematic timer, with the rollover status, is what `KeyLaw` says of an ON
lane. -/
theorem LaneView.Settled.keyLaw {v : LaneView} (h : v.Settled []) (hon : v.ln.on = true) : v.ln.KeyLaw := by
  obtain ⟨⟨hlen, hnodup, hlisted, hmarked, hunmarked, -, -, hunused, hserves⟩, hroll⟩ := h
  refine ⟨hlen, hnodup, fun p hp => ?_, fun p hkey hdown hp => hmarked p hkey hdown hp List.not_mem_nil,
    fun p hp => hunmarked p hp List.not_mem_nil, hunused, hroll, hserves, fun hoff => ?_⟩
  · obtain ⟨hkey, hmark, hdown⟩ := hlisted p hp
    exact ⟨hkey, hdown.resolve_right List.not_mem_nil, hmark⟩
  · rw [hon] at hoff
    cases hoff

/-- Keys that flipped, with their marks as they were: the law holds but for the positions that flipped (R23, R25). -/
theorem Lane.KeyLaw.flipped {d : Lane} (h : d.KeyLaw) {k : KeyScanner} (hlist : k.downList = d.keys.downList)
    (htyp : k.typematic = d.keys.typematic) (hmark : ∀ p : KeyPos, k.cells[p].mark = d.keys.cells[p].mark)
    (hsame : ∀ p : KeyPos, d.keymap[p] = .unused → k.cells[p] = d.keys.cells[p]) :
    k.Midway d.keymap (d.flips k.cells false) (d.flips k.cells true) := by
  obtain ⟨hlen, hnodup, hlisted, hmarked, hunmarked, hunused, -, hserves, -⟩ := h
  have hups (p : KeyPos) := d.mem_flips k.cells false p
  have hdowns (p : KeyPos) := d.mem_flips k.cells true p
  constructor
  all_goals try simp only [hlist, hmark]
  case length => exact hlen
  case nodup => exact hnodup
  case listed =>
    intro p hp
    obtain ⟨hkey, hdown, hnone⟩ := hlisted p hp
    refine ⟨hkey, hnone, ?_⟩
    cases hnew : k.cells[p].down with
    | false => exact .inr ((hups p).mpr ⟨hkey, hdown, hnew⟩)
    | true => exact .inl rfl
  case marked =>
    intro p hkey hnew hp hpd
    have hold : d.keys.cells[p].down = true :=
      Bool.of_not_eq_false fun hold => hpd ((hdowns p).mpr ⟨hkey, hold, hnew⟩)
    exact hmarked p hkey hold hp
  case unmarked =>
    intro p hp hpu
    refine hunmarked p ?_
    cases hkey : d.keymap[p].isKey with
    | false => exact .inl rfl
    | true =>
      have hnew : k.cells[p].down = false := hp.resolve_left fun e => by
        rw [hkey] at e
        cases e
      exact .inr (Bool.of_not_eq_true fun hold => hpu ((hups p).mpr ⟨hkey, hold, hnew⟩))
  case up =>
    intro p hp
    obtain ⟨hkey, -, hnew⟩ := (hups p).mp hp
    exact ⟨hkey, hnew⟩
  case down =>
    intro p hp
    obtain ⟨hkey, hold, hnew⟩ := (hdowns p).mp hp
    refine ⟨hkey, hnew, fun hin => ?_, hunmarked p (.inr hold)⟩
    obtain ⟨-, hdown, -⟩ := hlisted p hin
    rw [hold] at hdown
    cases hdown
  case unused =>
    intro p hp
    rw [hsame p hp]
    exact hunused p hp
  case serves =>
    rw [htyp]
    exact hserves

/-- A sample debounced. -/
theorem Lane.KeyLaw.sampled {v : LaneView} (h : v.ln.KeyLaw) (raw : BitVec 128) :
    (v.setKeys (v.ln.sampledKeys v.now raw)).Midway (v.ln.flips (v.ln.debounced raw) false)
      (v.ln.flips (v.ln.debounced raw) true) := by
  have hcells : (v.ln.sampledKeys v.now raw).cells = v.ln.debounced raw := rfl
  have hmark (p : KeyPos) : (v.ln.sampledKeys v.now raw).cells[p].mark = v.ln.keys.cells[p].mark := by
    rw [hcells, v.ln.debounced_cell, debounce_mark]
  have hsame (p : KeyPos) (hp : v.ln.keymap[p] = .unused) :
      (v.ln.sampledKeys v.now raw).cells[p] = v.ln.keys.cells[p] := by
    rw [hcells, v.ln.debounced_cell, hp, debounce_unused]
  have hlist : (v.ln.sampledKeys v.now raw).downList = v.ln.keys.downList := by unfold Lane.sampledKeys; rfl
  have htyp : (v.ln.sampledKeys v.now raw).typematic = v.ln.keys.typematic := by unfold Lane.sampledKeys; rfl
  have hflipped := Lane.KeyLaw.flipped (d := v.ln) (k := v.ln.sampledKeys v.now raw) h hlist htyp hmark hsame
  rw [hcells] at hflipped
  have hblocked : (v.ln.sampledKeys v.now raw).anyBlocked = v.ln.keys.anyBlocked :=
    KeyScanner.anyBlocked_congr fun p => by rw [hmark]
  obtain ⟨-, -, -, -, -, -, hroll, -⟩ := h
  have hsampled : (v.ln.sampledKeys v.now raw).rollover = v.ln.keys.rollover := by unfold Lane.sampledKeys; rfl
  constructor
  · rwa [LaneView.setKeys_ln_keys, LaneView.setKeys_ln_keymap]
  · rw [LaneView.setKeys_ln_keys, hblocked, hsampled, hroll]
    exact fun e => e

/-! ### The law of the keyboard, event by event -/

namespace Lane.KeyLaw

variable {rules : Vector CodeRule 16} {T : LanePart → Prop} {u v : LaneView}

/-- The keys, the keymap and whether the lane is ON are all the law reads. -/
theorem congr {d e : Lane} (h : d.KeyLaw) (hkeys : e.keys = d.keys) (hkeymap : e.keymap = d.keymap) (hon : e.on = d.on) :
    e.KeyLaw := by
  rw [Lane.KeyLaw, hkeys, hkeymap, hon]
  exact h

theorem moves (h : u.ln.KeyLaw) (hm : u.Moves rules T v) (hkeys : ¬T .keys) (hkeymap : ¬T .keymap) (hpower : ¬T .power) :
    v.ln.KeyLaw :=
  h.congr (hm.keys_eq hkeys) (hm.keymap_eq hkeymap) (by rw [Lane.on, Lane.on, hm.power_eq hpower])

theorem keys_of_not_on {d : Lane} (h : d.KeyLaw) (hon : d.on = false) : d.keys = .reset := by
  obtain ⟨-, -, -, -, -, -, -, -, hreset⟩ := h
  exact hreset hon

theorem processSample (h : v.ln.KeyLaw) (hon : v.ln.on = true) (raw : BitVec 128) :
    (v.processSample raw).ln.KeyLaw := by
  have hreleased := LaneView.Settled.of_released (h.sampled raw).releases
  have hpressed := hreleased.keylockStage.presses (v.ln.flips_nodup _ _)
  have hclosed : (v.processSample raw).Settled [] :=
    hpressed.moves (T := fun _ => False) (rules := Vector.replicate 16 .reset)
      (.closeCounters (.statusStage .refl) _) not_false not_false
  have hpower := (LaneView.Moves.processSample (rules := Vector.replicate 16 .reset)
    (T := fun p => p = .keys ∨ p = .drawer) (u := v) .refl (.inl rfl) (.inr rfl) raw).power_eq (by simp)
  exact hclosed.keyLaw (by rw [Lane.on, hpower]; exact hon)

theorem sampleArrival (h : v.ln.KeyLaw) (raw : BitVec 128) : (v.sampleArrival raw).ln.KeyLaw := by
  unfold LaneView.sampleArrival
  split
  · next hheard => exact h.processSample (Bool.and_eq_true_iff.mp hheard).1 raw
  · exact h

theorem typematicExpiry (h : v.ln.KeyLaw) : v.typematicExpiry.ln.KeyLaw := by
  unfold LaneView.typematicExpiry
  split
  · exact h
  · next t ht =>
    split
    · next hdue =>
      have hon : v.ln.on = true := (Bool.and_eq_true_iff.mp hdue).1
      have hf := (v.offer_frame (.keyRepeat t.pos)).ln
      have hoffered : (v.offer (.keyRepeat t.pos)).ln.KeyLaw :=
        h.congr hf.keys hf.keymap (by rw [Lane.on, Lane.on, hf.power])
      obtain ⟨hlen, hnodup, hlisted, hmarked, hunmarked, hunused, hroll, hserves, -⟩ := hoffered
      have hOn : (v.offer (.keyRepeat t.pos)).ln.on = true := by rw [Lane.on, hf.power]; exact hon
      have hlast : (v.offer (.keyRepeat t.pos)).ln.keys.downList.getLast? = some t.pos :=
        hserves t (by rw [hf.keys, ht]; rfl)
      refine ⟨hlen, hnodup, hlisted, hmarked, hunmarked, hunused, hroll, fun u hu => ?_, fun hoff => ?_⟩
      · cases hu
        exact hlast
      · exact absurd (hOn.symm.trans hoff) nofun
    · exact h

/-- Leaving a lane state resets the key matrix scanner. -/
theorem leaveFor (v : LaneView) (dest : LaneState) : (v.leaveFor dest).ln.KeyLaw := by
  refine Lane.keyLaw_of_reset ?_
  unfold LaneView.leaveFor
  dsimp only
  rw [LaneView.offer_keys]
  rfl

theorem powerOff (h : v.ln.KeyLaw) : v.powerOff.1.ln.KeyLaw := by
  unfold LaneView.powerOff
  split
  case h_1 => exact h
  case h_3 =>
    split
    · exact h
    · exact leaveFor v .off
  all_goals exact leaveFor v .off

theorem powerOn (h : v.ln.KeyLaw) : v.powerOn.1.ln.KeyLaw := by
  unfold LaneView.powerOn
  split
  case h_1 hoff =>
    have hreset := h.keys_of_not_on (by rw [Lane.on, hoff]; rfl)
    unfold LaneView.enterSettling
    dsimp only
    split
    · exact leaveFor _ .tripped
    · refine Lane.keyLaw_of_reset ?_
      rw [LaneView.offer_keys]
      exact hreset
  all_goals exact h

theorem pflTrip (h : v.ln.KeyLaw) : (if v.ln.powered then v.trip else v).ln.KeyLaw := by
  split
  · exact leaveFor _ .tripped
  · exact h

/-- The key matrix scanner as an ON period begins: reset, with a first sample due. -/
theorem startedKeys (d : Lane) (now : Time) (keymap : Vector KeyAttr 128) :
    KeyScanner.Midway keymap (d.startedKeys now) [] [] := by
  have hlaw : Lane.KeyLaw { Lane.reset with keymap := keymap } := Lane.keyLaw_of_reset rfl
  obtain ⟨hlen, hnodup, hlisted, hmarked, hunmarked, hunused, -, hserves, -⟩ := hlaw
  exact ⟨hlen, hnodup, fun p hp => (List.not_mem_nil hp).elim, fun p hkey hdown hp _ => hmarked p hkey hdown hp,
    fun p hp _ => hunmarked p hp, fun p hp => (List.not_mem_nil hp).elim, fun p hp => (List.not_mem_nil hp).elim,
    hunused, hserves⟩

theorem enterOn (v : LaneView) : v.enterOn.ln.KeyLaw := by
  have hstarted : ((v.offer (.lane .on v.ln.power.progress)).startBlocks).Settled [] :=
    ⟨startedKeys _ _ _, KeyScanner.reset_anyBlocked.symm⟩
  have hevaluated : ((v.offer (.lane .on v.ln.power.progress)).startBlocks).Moves (Vector.replicate 16 .reset)
      (fun _ => False) ((v.offer (.lane .on v.ln.power.progress)).startBlocks.evaluateConditions) :=
    .evaluateConditions .refl
  have hlaw : ((v.offer (.lane .on v.ln.power.progress)).startBlocks.evaluateConditions).ln.KeyLaw :=
    (hstarted.moves hevaluated not_false not_false).keyLaw (by rw [Lane.on, hevaluated.power_eq not_false]; rfl)
  unfold LaneView.enterOn
  generalize (v.offer (.lane .on v.ln.power.progress)).startBlocks.evaluateConditions = w at hlaw
  dsimp only
  split <;> exact hlaw

theorem settleExpiry (h : v.ln.KeyLaw) : v.settleExpiry.ln.KeyLaw := by
  have hpassed (x : PowerCtl) (hx : x.state = v.ln.power.state) : (v.setPower x).ln.KeyLaw :=
    h.congr rfl rfl (by rw [Lane.on, Lane.on, LaneView.setPower_ln_power, hx])
  have hmilestone : v.passMilestone.ln.KeyLaw := by
    unfold LaneView.passMilestone
    split
    · dsimp only
      split
      · exact enterOn _
      · exact hpassed _ rfl
    · exact h
  unfold LaneView.settleExpiry
  split
  · exact hmilestone
  · exact h

end Lane.KeyLaw

/-- Every event of a lane keeps the law of its keyboard. -/
theorem Lane.KeyLaw.event {rules : Vector CodeRule 16} {v w : LaneView} (h : v.ln.KeyLaw) (hw : v.Event rules w) :
    w.ln.KeyLaw := by
  have hquiet {w : LaneView} (hm : v.Moves rules (fun _ => False) w) : w.ln.KeyLaw :=
    h.moves hm not_false not_false not_false
  have hdrawer {w : LaneView} (hm : v.Moves rules (Eq .drawer) w) : w.ln.KeyLaw := h.moves hm nofun nofun nofun
  cases hw with
  | same => exact h
  | quiet hon hm => exact hquiet hm
  | inhibitOff => exact hquiet (.setReasons .refl _)
  | counts clear => exact hquiet (.countsRequest .refl clear)
  | removeRecords n => exact hquiet (.removeRecords .refl n)
  | windowExpiry => exact hquiet (.windowExpiry .refl)
  | readSet => exact hquiet (.evalFlow .refl _)
  | storeSet x hx => exact hquiet (.storeSet .refl hx)
  | setPins x => exact h
  | setCfg hp x hx => exact h
  | setKeymap hp x =>
    have hoff : v.ln.on = false := by
      rw [Lane.powered, Bool.or_eq_false_iff] at hp
      exact hp.2
    exact Lane.keyLaw_of_reset (d := { v.ln with keymap := x }) (h.keys_of_not_on hoff)
  | powerOn => exact h.powerOn
  | powerOff => exact h.powerOff
  | pflTrip => exact h.pflTrip
  | settleExpiry => exact h.settleExpiry
  | hostRelease => exact hdrawer (.hostRelease .refl rfl)
  | changeFlags setList clearList => exact h
  | clearFault => exact hdrawer (.clearFault .refl rfl)
  | dsnChange level => exact hdrawer (.dsnChange .refl rfl level)
  | stabilityExpiry => exact hdrawer (.stabilityExpiry .refl rfl)
  | pulseExpiry => exact hdrawer (.pulseExpiry .refl rfl)
  | docAssert => exact hdrawer (.docAssert .refl rfl)
  | confirmExpiry => exact hdrawer (.confirmExpiry .refl rfl)
  | openLongExpiry => exact hdrawer (.openLongExpiry .refl rfl)
  | lockdownCut => exact hdrawer (.lockdownCut .refl rfl)
  | sampleArrival raw => exact h.sampleArrival raw
  | typematicExpiry => exact h.typematicExpiry

/-- Settles O58: the law is a law of each lane that every event keeps; in the middle of a sample it holds but for the
positions that flipped and are still to be handled. -/
theorem keyboardsKeepTheirLaws : Obligations.KeyboardsKeepTheirLaws := by
  unfold Obligations.KeyboardsKeepTheirLaws
  intro s t h hstep
  have hkept : State.Kept State.KeyLaw :=
    State.kept_of_lanes (P := fun _ d => d.KeyLaw) (fun hw hlaw => hlaw.event hw)
      (fun _ _ => Lane.keyLaw_of_reset rfl)
  exact hkept.step h hstep

end Sys2Proof.Machine
end

section
/-!
PROOFS. The table of the lane states (O57): the power law and the reset blocks of a lane outside ON, event by event.
-/

namespace Sys2Proof.Machine

/-- The lane keeps the table of R1, and outside ON its working blocks hold their reset values (R1, R9). -/
def Lane.Tabled (d : Lane) : Prop := d.PowerLaw ∧ (d.on = false → d.AtLocalReset)

/-! ### A lane outside ON -/

/-- Outside ON a change of the disable-reason set is a change of the set alone (R57). -/
theorem LaneView.setReasons_off {v : LaneView} (hoff : v.ln.on = false) (r : Reasons) :
    v.setReasons r = v.setPort { v.ln.port with reasons := r } := by
  simp [LaneView.setReasons, hoff]

/-- Outside ON an evaluation of FLOW changes FLOW at most (R104). -/
theorem LaneView.evalFlow_off {v : LaneView} (hoff : v.ln.on = false) (n : Nat) :
    ∃ flow, v.evalFlow n = v.setPort { v.ln.port with reasons := { v.ln.port.reasons with flow := flow } } := by
  cases n with
  | zero => exact ⟨v.ln.port.reasons.flow, rfl⟩
  | succ n =>
    unfold LaneView.evalFlow
    split
    · exact ⟨v.ln.port.reasons.flow, rfl⟩
    · next flow _ =>
      refine ⟨flow, ?_⟩
      rw [LaneView.setReasons_off hoff]
      have hon : (v.setPort { v.ln.port with reasons := { v.ln.port.reasons with flow := flow } }).ln.on = false := hoff
      dsimp only
      rw [hon, Bool.false_and, if_neg Bool.false_ne_true]

/-- The reset values leave FLOW open. -/
theorem Lane.AtLocalReset.setFlow {v : LaneView} (h : v.ln.AtLocalReset) (flow : Bool) :
    (v.setPort { v.ln.port with reasons := { v.ln.port.reasons with flow := flow } }).ln.AtLocalReset := by
  obtain ⟨hkeys, hport, hfilter, hdrawer, hlive, hreport, hchecker⟩ := h
  refine ⟨hkeys, ?_, hfilter, hdrawer, hlive, hreport, hchecker⟩
  dsimp only [LaneView.setPort]
  rw [hport]

theorem Lane.AtLocalReset.evalFlow {v : LaneView} (h : v.ln.AtLocalReset) (hoff : v.ln.on = false) (n : Nat) :
    (v.evalFlow n).ln.AtLocalReset := by
  obtain ⟨flow, he⟩ := LaneView.evalFlow_off hoff n
  rw [he]
  exact h.setFlow flow

theorem Lane.AtLocalReset.offer {v : LaneView} (h : v.ln.AtLocalReset) (hoff : v.ln.on = false) (b : RecordBody) :
    (v.offer b).ln.AtLocalReset := by
  unfold LaneView.offer
  split
  · exact Lane.AtLocalReset.evalFlow (v := v.enqueue b) h hoff _
  · rw [LaneView.refuse_eq]
    exact h

theorem Lane.AtLocalReset.storeSet {v : LaneView} (h : v.ln.AtLocalReset) (hoff : v.ln.on = false) (x : LaneSet) :
    (v.storeSet x).ln.AtLocalReset := by
  obtain ⟨hkeys, hport, hfilter, hdrawer, hlive, hreport, hchecker⟩ := h
  have hwindow : (v.setSet x).windowStored = v.setSet x := by
    unfold LaneView.windowStored
    split
    · rw [← hfilter]
      rfl
    · rfl
  have hclosed : (v.setSet x).ln.drawerOpen = false := by
    have hstate : v.ln.drawer.state = .unsensed := by rw [hdrawer]; rfl
    simp [Lane.drawerOpen, hstate]
  have hinhibit : (v.setSet x).inhibitStored v.ln.set = v.setSet x := by
    rw [LaneView.inhibitStored, hclosed, Bool.and_false, if_neg Bool.false_ne_true]
  have hmode : (v.setSet x).modeStored v.ln.set = v.setSet x := by
    unfold LaneView.modeStored
    split
    · exact if_neg (by rw [show (v.setSet x).ln.on = false from hoff]; exact Bool.false_ne_true)
    · rw [← hreport]
      rfl
    · rfl
    · rfl
  unfold LaneView.storeSet
  rw [hwindow, hinhibit, hmode]
  exact Lane.AtLocalReset.evalFlow (v := v.setSet x) ⟨hkeys, hport, hfilter, hdrawer, hlive, hreport, hchecker⟩ hoff _

/-- Outside ON nothing is handed to the monitor (R133). -/
theorem LaneView.handOver_off {v : LaneView} (hoff : v.ln.on = false) (c : Condition) (live : Bool) :
    v.handOver c live = v := by
  rw [LaneView.handOver, hoff, Bool.false_and, if_neg Bool.false_ne_true]

theorem LaneView.closeCounters_off {v : LaneView} (hoff : v.ln.on = false) (before : Counters) :
    v.closeCounters before = v := by
  unfold LaneView.closeCounters
  split
  · rfl
  · exact v.handOver_off hoff _ _

theorem Lane.AtLocalReset.countsRequest {v : LaneView} (h : v.ln.AtLocalReset) (hoff : v.ln.on = false) (clear : Bool) :
    (v.countsRequest clear).1.ln.AtLocalReset := by
  unfold LaneView.countsRequest
  split
  case h_2 =>
    dsimp only
    rw [LaneView.closeCounters_off (v := v.setCounters .zero) hoff]
    exact h
  all_goals exact h

theorem Lane.AtLocalReset.removeRecords {v : LaneView} (h : v.ln.AtLocalReset) (hoff : v.ln.on = false) (n : Nat) :
    (v.removeRecords n).ln.AtLocalReset := by
  rw [v.removeRecords_eq]
  split
  · exact h
  · exact Lane.AtLocalReset.evalFlow (v := v.withoutHead n) h hoff _

/-- The drawer and key events that a lane at its reset values does not hear. -/
theorem Lane.AtLocalReset.unheard {v : LaneView} (h : v.ln.AtLocalReset) (hoff : v.ln.on = false) :
    v.windowExpiry = v ∧ v.hostRelease.1 = v ∧ v.clearFault = v ∧ v.stabilityExpiry = v ∧ v.pulseExpiry = v ∧
      v.docAssert = v ∧ v.confirmExpiry = v ∧ v.openLongExpiry = v ∧ v.lockdownCut = v ∧ v.typematicExpiry = v := by
  obtain ⟨hkeys, -, hfilter, hdrawer, -, -, -⟩ := h
  have hstate : v.ln.drawer.state = .unsensed := by rw [hdrawer]; rfl
  have hstability : v.ln.drawer.stability = none := by rw [hdrawer]; rfl
  have hfault : v.ln.drawer.fault = false := by rw [hdrawer]; rfl
  have hwindow : v.ln.filter.window = none := by rw [hfilter]; rfl
  have htypematic : v.ln.keys.typematic = none := by rw [hkeys]; rfl
  refine ⟨?_, ?_, ?_, ?_, ?_, ?_, ?_, ?_, ?_, ?_⟩
  · simp [LaneView.windowExpiry, hwindow, expired]
  · simp [LaneView.hostRelease, LaneView.releaseCheck, hoff]
  · simp [LaneView.clearFault, hfault]
  · simp [LaneView.stabilityExpiry, hstability]
  · simp [LaneView.pulseExpiry, hstate]
  · simp [LaneView.docAssert, hstate]
  · simp [LaneView.confirmExpiry, hstate]
  · simp [LaneView.openLongExpiry, hstate]
  · simp [LaneView.lockdownCut, hstate]
  · simp [LaneView.typematicExpiry, htypematic]

/-! ### The power controller -/

theorem Lane.Tabled.offer {v : LaneView} (h : v.ln.Tabled) (b : RecordBody) : (v.offer b).ln.Tabled := by
  have hf := (v.offer_frame b).ln
  obtain ⟨hlaw, hreset⟩ := h
  refine ⟨?_, fun hoff => ?_⟩
  · simp only [Lane.PowerLaw, Lane.powered, hf.power, hf.cfg]
    exact hlaw
  · have hv : v.ln.on = false := by rwa [Lane.on, hf.power] at hoff
    exact (hreset hv).offer hv b

/-- A lane that leaves for OFF or TRIPPED is in order, whatever it was (R1, R6, R7, R9). -/
theorem Lane.leave_tabled (d : Lane) {dest : LaneState} (hdest : dest = .off ∨ dest = .tripped) :
    (d.leave dest).Tabled := by
  refine ⟨?_, fun _ => ⟨rfl, rfl, rfl, rfl, rfl, rfl, rfl⟩⟩
  obtain rfl | rfl := hdest
  all_goals exact ⟨rfl, fun _ => ⟨rfl, rfl⟩, nofun, nofun, nofun⟩

theorem LaneView.leaveFor_tabled (v : LaneView) {dest : LaneState} (hdest : dest = .off ∨ dest = .tripped) :
    (v.leaveFor dest).ln.Tabled := by
  unfold LaneView.leaveFor
  generalize (if v.ln.checking then v.closeCheck .lane else v) = w
  exact Lane.Tabled.offer (v := { w with ln := w.ln.leave dest }) (w.ln.leave_tabled hdest) _

theorem LaneView.trip_tabled (v : LaneView) : v.trip.ln.Tabled := LaneView.leaveFor_tabled _ (.inr rfl)

theorem LaneView.enterSettling_tabled {v : LaneView} (h : v.ln.Tabled) (hoff : v.ln.on = false) :
    v.enterSettling.ln.Tabled := by
  have hset : (v.setPower (enteringSettling v.now)).ln.Tabled :=
    ⟨⟨rfl, nofun, fun _ => ⟨rfl, rfl⟩, nofun, nofun⟩, fun _ => h.2 hoff⟩
  unfold LaneView.enterSettling
  dsimp only
  split
  · exact LaneView.trip_tabled _
  · exact hset.offer _

theorem nextMilestone_eq_some {p : Option Milestone} {m : Milestone} (h : nextMilestone p = some m) :
    (p = none ∧ m = 0) ∨ ∃ q, p = some q ∧ m.val = q.val + 1 := by
  cases p with
  | none => exact .inl ⟨rfl, (Option.some.inj h).symm⟩
  | some q =>
    unfold nextMilestone at h
    dsimp only at h
    split at h
    · exact .inr ⟨q, rfl, congrArg Fin.val (Option.some.inj h).symm⟩
    · cases h

/-- The lane after a milestone, its requirement not reached by it. -/
theorem Lane.Tabled.pass {v : LaneView} (h : v.ln.Tabled) (hp : v.ln.powered = true) {start : Time} {m : Milestone}
    (hstart : v.ln.power.start = some start) (hm : nextMilestone v.ln.power.progress = some m)
    (hreached : ¬(v.ln.power.state = .settling ∧ m = v.ln.cfg.settle)) :
    (v.setPower
      { v.ln.power with progress := some m, timer := (nextMilestone (some m)).map (milestonePoint start) }).ln.Tabled := by
  obtain ⟨⟨hpen, -, -, hsettling, hon⟩, hreset⟩ := h
  refine ⟨⟨hpen, fun hp' => ?_, fun _ => ⟨?_, ?_⟩, fun hs k hk => ?_, fun hs => ⟨rfl, fun k hk => ?_⟩⟩, hreset⟩
  · exact absurd (hp.symm.trans hp') (by decide)
  · rw [LaneView.setPower_ln_power, hstart]
    rfl
  · rw [LaneView.setPower_ln_power, hstart]
    rfl
  · obtain rfl := Option.some.inj hk
    have hne : m ≠ v.ln.cfg.settle := fun e => hreached ⟨hs, e⟩
    have hle : m.val ≤ v.ln.cfg.settle.val := by
      obtain ⟨-, rfl⟩ | ⟨q, hq, hmq⟩ := nextMilestone_eq_some hm
      · exact Nat.zero_le _
      · have hlt := hsettling hs q hq
        rw [Fin.lt_def] at hlt
        omega
    exact Fin.lt_def.mpr (Nat.lt_of_le_of_ne hle fun e => hne (Fin.ext e))
  · obtain rfl := Option.some.inj hk
    obtain ⟨hsome, hle⟩ := hon hs
    obtain ⟨hnone, -⟩ | ⟨q, hq, hmq⟩ := nextMilestone_eq_some hm
    · rw [hnone] at hsome
      cases hsome
    · have hge := hle q hq
      rw [Fin.le_def] at hge
      refine Fin.le_def.mpr ?_
      dsimp only [LaneView.setPower_ln_cfg]
      omega

theorem LaneView.startBlocks_power (v : LaneView) : v.startBlocks.ln.power = { v.ln.power with state := .on } := rfl

theorem LaneView.startBlocks_cfg (v : LaneView) : v.startBlocks.ln.cfg = v.ln.cfg := rfl

theorem LaneView.enterOn_power (v : LaneView) :
    v.enterOn.ln.power = { v.ln.power with state := .on } ∧ v.enterOn.ln.cfg = v.ln.cfg := by
  have hoffer := (v.offer_frame (.lane .on v.ln.power.progress)).ln
  unfold LaneView.enterOn
  generalize v.offer (.lane .on v.ln.power.progress) = offered at hoffer
  have hmoves := LaneView.Moves.evaluateConditions (rules := Vector.replicate 16 .reset) (T := fun _ => False)
    (.refl (u := offered.startBlocks))
  have hpower := hmoves.power_eq not_false
  have hcfg := hmoves.cfg_eq not_false
  rw [LaneView.startBlocks_power, hoffer.power] at hpower
  rw [LaneView.startBlocks_cfg, hoffer.cfg] at hcfg
  generalize offered.startBlocks.evaluateConditions = w at hpower hcfg
  dsimp only
  split
  · exact ⟨hpower, hcfg⟩
  · exact ⟨hpower, hcfg⟩

/-- A lane that enters ON with its requirement reached is in order (R5). -/
theorem LaneView.enterOn_tabled {v : LaneView} {start : Time} {m : Milestone}
    (hpen : v.ln.power.pen = true) (hstart : v.ln.power.start = some start) (hm : v.ln.power.progress = some m)
    (htimer : v.ln.power.timer = (nextMilestone (some m)).map (milestonePoint start)) (hsettle : v.ln.cfg.settle ≤ m) :
    v.enterOn.ln.Tabled := by
  have hpower := v.enterOn_power
  refine ⟨?_, fun hoff => ?_⟩
  · simp only [Lane.PowerLaw, Lane.powered, hpower.1, hpower.2, hpen, hstart, hm, htimer]
    exact ⟨rfl, nofun, fun _ => ⟨rfl, rfl⟩, nofun, fun _ => ⟨rfl, fun k hk => Option.some.inj hk ▸ hsettle⟩⟩
  · simp [Lane.on, hpower.1] at hoff

theorem Lane.Tabled.settleExpiry {v : LaneView} (h : v.ln.Tabled) : v.settleExpiry.ln.Tabled := by
  unfold LaneView.settleExpiry LaneView.passMilestone
  split
  · next hexp =>
    rw [Bool.and_eq_true] at hexp
    obtain ⟨hp, -⟩ := hexp
    split
    · next start m hstart hm =>
      dsimp only
      split
      · next hreached =>
        exact LaneView.enterOn_tabled (h.1.1.trans hp) hstart rfl rfl (ge_of_eq hreached.2)
      · next hreached => exact h.pass hp hstart hm hreached
    · exact h
  · exact h

/-! ### Events -/

/-- Moves that leave the power controller and the static settings alone keep the table where, outside ON, they keep the
reset values. -/
theorem Lane.Tabled.moves {rules : Vector CodeRule 16} {T : LanePart → Prop} {v w : LaneView} (h : v.ln.Tabled)
    (hm : v.Moves rules T w) (hpower : ¬T .power) (hcfg : ¬T .cfg)
    (hreset : v.ln.on = false → v.ln.AtLocalReset → w.ln.AtLocalReset) : w.ln.Tabled := by
  have hp := hm.power_eq hpower
  obtain ⟨hlaw, hat⟩ := h
  refine ⟨?_, fun hoff => ?_⟩
  · simp only [Lane.PowerLaw, Lane.powered, hp, hm.cfg_eq hcfg]
    exact hlaw
  · have hv : v.ln.on = false := by rwa [Lane.on, hp] at hoff
    exact hreset hv (hat hv)

/-- As `Lane.Tabled.moves`, for an event that a lane at its reset values does not hear. -/
theorem Lane.Tabled.unheard {rules : Vector CodeRule 16} {v w : LaneView} (h : v.ln.Tabled)
    (hm : v.Moves rules (fun p => p = .drawer ∨ p = .keys) w)
    (hsame : v.ln.on = false → v.ln.AtLocalReset → w = v) : w.ln.Tabled :=
  h.moves hm (by rintro (h | h) <;> cases h) (by rintro (h | h) <;> cases h) fun hoff hat => by
    rw [hsame hoff hat]
    exact hat

theorem Lane.Tabled.powerOn {v : LaneView} (h : v.ln.Tabled) : v.powerOn.1.ln.Tabled := by
  unfold LaneView.powerOn
  split
  · next hs => exact LaneView.enterSettling_tabled h (by simp [Lane.on, hs])
  all_goals exact h

theorem Lane.Tabled.powerOff {v : LaneView} (h : v.ln.Tabled) : v.powerOff.1.ln.Tabled := by
  unfold LaneView.powerOff
  split
  · exact h
  · exact v.leaveFor_tabled (.inl rfl)
  · split
    · exact h
    · exact v.leaveFor_tabled (.inl rfl)
  · exact v.leaveFor_tabled (.inl rfl)

theorem Lane.Tabled.setCfg {v : LaneView} (h : v.ln.Tabled) (hp : v.ln.powered = false) (x : LaneCfg) :
    (v.setCfg x).ln.Tabled := by
  obtain ⟨⟨hpen, hnone, hsome, -, -⟩, hreset⟩ := h
  refine ⟨⟨hpen, hnone, hsome, fun hs => ?_, fun hs => ?_⟩, hreset⟩
  · have hs' : v.ln.power.state = .settling := hs
    simp [Lane.powered, hs'] at hp
  · have hs' : v.ln.power.state = .on := hs
    simp [Lane.powered, hs'] at hp

theorem LaneView.dsnChange_off {v : LaneView} (hoff : v.ln.on = false) (level : Sense) : v.dsnChange level = v := by
  rw [LaneView.dsnChange, hoff, if_neg Bool.false_ne_true]

theorem LaneView.sampleArrival_off {v : LaneView} (hoff : v.ln.on = false) (raw : BitVec 128) :
    v.sampleArrival raw = v := by
  rw [LaneView.sampleArrival, hoff, Bool.false_and, if_neg Bool.false_ne_true]

/-- Every event of a lane keeps its table. -/
theorem LaneView.Event.tabled {rules : Vector CodeRule 16} {v w : LaneView} (hw : v.Event rules w) (h : v.ln.Tabled) :
    w.ln.Tabled := by
  cases hw with
  | same => exact h
  | quiet hon hm =>
    exact h.moves hm not_false not_false fun hoff => absurd (hon.symm.trans hoff) (by decide)
  | inhibitOff =>
    refine h.moves (T := fun _ => False) (rules := rules) (.setReasons .refl _) not_false not_false fun hoff hat => ?_
    obtain ⟨hkeys, hport, hfilter, hdrawer, hlive, hreport, hchecker⟩ := hat
    rw [LaneView.setHostReason, LaneView.setReasons_off hoff]
    refine ⟨hkeys, ?_, hfilter, hdrawer, hlive, hreport, hchecker⟩
    dsimp only [LaneView.setPort]
    rw [hport]
    rfl
  | counts clear =>
    exact h.moves (T := fun _ => False) (rules := rules) (.countsRequest .refl clear) not_false not_false
      fun hoff hat => hat.countsRequest hoff clear
  | removeRecords n =>
    exact h.moves (T := fun _ => False) (rules := rules) (.removeRecords .refl n) not_false not_false
      fun hoff hat => hat.removeRecords hoff n
  | windowExpiry => exact h.unheard (rules := rules) (.windowExpiry .refl) fun hoff hat => (hat.unheard hoff).1
  | readSet =>
    exact h.moves (T := fun _ => False) (rules := rules) (.evalFlow .refl _) not_false not_false
      fun hoff hat => hat.evalFlow hoff _
  | storeSet x hx =>
    exact h.moves (T := fun _ => False) (rules := rules) (.storeSet .refl hx) not_false not_false
      fun hoff hat => hat.storeSet hoff x
  | setPins x => exact h
  | setCfg hp x hx => exact h.setCfg hp x
  | setKeymap hp x => exact h
  | powerOn => exact h.powerOn
  | powerOff => exact h.powerOff
  | pflTrip =>
    split
    · exact v.trip_tabled
    · exact h
  | settleExpiry => exact h.settleExpiry
  | hostRelease =>
    refine h.unheard (rules := rules) (.hostRelease .refl (.inl rfl)) fun hoff hat => ?_
    obtain ⟨-, he, -⟩ := hat.unheard hoff
    exact he
  | changeFlags setList clearList =>
    refine ⟨h.1, fun hoff => ?_⟩
    obtain ⟨hkeys, hport, hfilter, hdrawer, hlive, hreport, hchecker⟩ := h.2 hoff
    refine ⟨hkeys, hport, hfilter, ?_, hlive, hreport, hchecker⟩
    dsimp only [LaneView.changeFlags, LaneView.setDrawer]
    rw [hdrawer]
  | clearFault =>
    refine h.unheard (rules := rules) (.clearFault .refl (.inl rfl)) fun hoff hat => ?_
    obtain ⟨-, -, he, -⟩ := hat.unheard hoff
    exact he
  | dsnChange level =>
    exact h.unheard (rules := rules) (.dsnChange .refl (.inl rfl) level) fun hoff _ => v.dsnChange_off hoff level
  | stabilityExpiry =>
    refine h.unheard (rules := rules) (.stabilityExpiry .refl (.inl rfl)) fun hoff hat => ?_
    obtain ⟨-, -, -, he, -⟩ := hat.unheard hoff
    exact he
  | pulseExpiry =>
    refine h.unheard (rules := rules) (.pulseExpiry .refl (.inl rfl)) fun hoff hat => ?_
    obtain ⟨-, -, -, -, he, -⟩ := hat.unheard hoff
    exact he
  | docAssert =>
    refine h.unheard (rules := rules) (.docAssert .refl (.inl rfl)) fun hoff hat => ?_
    obtain ⟨-, -, -, -, -, he, -⟩ := hat.unheard hoff
    exact he
  | confirmExpiry =>
    refine h.unheard (rules := rules) (.confirmExpiry .refl (.inl rfl)) fun hoff hat => ?_
    obtain ⟨-, -, -, -, -, -, he, -⟩ := hat.unheard hoff
    exact he
  | openLongExpiry =>
    refine h.unheard (rules := rules) (.openLongExpiry .refl (.inl rfl)) fun hoff hat => ?_
    obtain ⟨-, -, -, -, -, -, -, he, -⟩ := hat.unheard hoff
    exact he
  | lockdownCut =>
    refine h.unheard (rules := rules) (.lockdownCut .refl (.inl rfl)) fun hoff hat => ?_
    obtain ⟨-, -, -, -, -, -, -, -, he, -⟩ := hat.unheard hoff
    exact he
  | sampleArrival raw =>
    exact h.unheard (rules := rules) (.sampleArrival .refl (.inr rfl) (.inl rfl) raw)
      fun hoff _ => v.sampleArrival_off hoff raw
  | typematicExpiry =>
    refine h.unheard (rules := rules) (.typematicExpiry .refl (.inr rfl)) fun hoff hat => ?_
    obtain ⟨-, -, -, -, -, -, -, -, -, he⟩ := hat.unheard hoff
    exact he

theorem Lane.deviceReset_tabled (d : Lane) : d.deviceReset.Tabled :=
  ⟨⟨rfl, fun _ => ⟨rfl, rfl⟩, nofun, nofun, nofun⟩, fun _ => ⟨rfl, rfl, rfl, rfl, rfl, rfl, rfl⟩⟩

/-- Settles O57: the table is a law of each lane, kept by every event of the lane and set up by a device reset. -/
theorem laneStatesKeepTheirTable : Obligations.LaneStatesKeepTheirTable := by
  unfold Obligations.LaneStatesKeepTheirTable
  intro s t h hstep
  have hkept : State.Kept State.PowerLaw :=
    State.kept_of_lanes (P := fun _ d => d.Tabled) (fun hw hv => hw.tabled hv) fun _ d => d.deviceReset_tabled
  exact hkept.step h hstep

end Sys2Proof.Machine
end

section
/-!
PROOFS. Rules for a statement about one event of one lane: how the event reaches its lane, what it leaves outside it, and
the record it offers.
-/

namespace Sys2Proof.Machine

/-! ### An event reaches its lane -/

/-- A row whose event is heard. -/
theorem State.heard {s : State} {l : LaneId} {c : Instr} {f : LaneView → LaneView} (hs : s.held = false)
    (hexec : exec c s = .next (s.laneEvent l f)) : exec c s = .next (s.put l (f (s.view l))) := by
  rw [hexec, s.laneEvent_heard l f hs]
  rfl

/-- A row whose event changes nothing, heard or not. -/
theorem State.heard_same {s : State} {l : LaneId} {c : Instr} {f : LaneView → LaneView}
    (hexec : exec c s = .next (s.laneEvent l f)) (hf : f (s.view l) = s.view l) : exec c s = .next s := by
  rw [hexec]
  unfold State.laneEvent
  rw [s.onLane_same l f hf, ite_self]

/-- A row whose event is heard and changes its lane alone. -/
theorem State.heard_alone {s : State} {l : LaneId} {c : Instr} {f : LaneView → LaneView} {d : Lane} (hs : s.held = false)
    (hexec : exec c s = .next (s.laneEvent l f)) (hf : f (s.view l) = { s.view l with ln := d }) :
    exec c s = .next (s.withLaneAs l d) := by
  rw [State.heard hs hexec, hf]
  rfl

theorem State.put_frame (s : State) (l : LaneId) (w : LaneView) : s.LaneFrame (s.put l w) l :=
  s.onLane_frame l fun _ => w

/-- A lane put back with the pool and the alarm queue as they were. -/
theorem State.put_quiet {s : State} {l : LaneId} {w : LaneView} (hw : w.free = s.poolFree ∧ w.alarms = s.alarms) :
    s.QuietFrame (s.put l w) l :=
  ⟨s.put_frame l w, hw.1, hw.2⟩

/-- A lane request taken: its answer joins the reply buffers and its lane is put back. -/
theorem State.request_answers {s : State} (k : RequestKind) {tag : Byte} {r : Request} {lane : Byte} {l : LaneId}
    {f : LaneView → LaneView × Answer} {w : LaneView} {code : ReplyCode} {body : List Byte} (hs : s.ready)
    (hserve : s.serve r = s.answerLane lane f) (hk : r.kind = k) (hl : lane.toNat = l.val)
    (hf : f (s.view l) = (w, { code := code, body := body })) (hne : k ≠ .release := by decide) :
    s.request tag r = (s.answered (k.byte ||| 0x80) tag code body).put l w := by
  rw [s.request_lane k tag hs hserve hk hl hne, hf]
  rfl

/-! ### The record an event offers -/

/-- The queue of lane `l`, and what a record takes from outside it, stand in the view as in the state. -/
structure LaneView.QueueFrom (v : LaneView) (s : State) (l : LaneId) : Prop where
  id : v.id = l
  now : v.now = s.timeBase
  attn : v.attn = s.attn
  queue : v.ln.queue = s.lanes[l].queue

theorem LaneView.QueueFrom.record_eq {v : LaneView} {s : State} {l : LaneId} (h : v.QueueFrom s l) (b : RecordBody) :
    v.record b = s.recordOf l b := by
  simp only [LaneView.record, State.recordOf, h.id, h.now, h.queue]

/-- A class B record offered by an event that found the queue as the state holds it. -/
theorem LaneView.QueueFrom.offeredB {v : LaneView} {s t : State} {l : LaneId} (h : v.QueueFrom s l) {b : RecordBody}
    (hb : b.classA = false) (hqueue : t.lanes[l].queue = (v.offer b).ln.queue) (hattn : t.attn = (v.offer b).attn) :
    s.OfferedB t l b := by
  have htakes : v.takes b = decide (s.lanes[l].count < 32) := by
    rw [LaneView.takes_classB _ b hb, Lane.count, Lane.count, h.queue]
  refine ⟨fun hroom => ?_, fun hfull => ?_⟩
  · obtain ⟨⟨more, hrecords, hmore⟩, -⟩ := v.offer_taken b (htakes.trans (decide_eq_true hroom))
    refine ⟨more, ?_, fun m hm => (hmore m hm).1⟩
    rw [hqueue, hrecords, h.record_eq b, h.queue]
  · rw [hqueue, hattn, v.offer_refusedB b (htakes.trans (decide_eq_false (Nat.not_lt.mpr hfull))) hb, ← h.queue,
      ← h.attn]
    exact ⟨rfl, rfl⟩

/-- A record offered to a queue with room stands behind what the queue held. -/
theorem LaneView.QueueFrom.appended {v : LaneView} {s : State} {l : LaneId} (h : v.QueueFrom s l) {b : RecordBody}
    (hb : b.classA = false) (hroom : s.lanes[l].count < 32) : s.lanes[l].Appended (v.offer b).ln (s.recordOf l b) := by
  have htakes : v.takes b = true := by
    rw [LaneView.takes_classB _ b hb, Lane.count, h.queue]
    exact decide_eq_true hroom
  obtain ⟨⟨more, hrecords, hmore⟩, -⟩ := v.offer_taken b htakes
  refine ⟨more, ?_, fun m hm => (hmore m hm).1⟩
  rw [hrecords, h.record_eq b, h.queue]

/-- ATTN stays where it is asserted. -/
theorem LaneView.offer_attn {v : LaneView} (h : v.attn = true) (b : RecordBody) : (v.offer b).attn = true := by
  obtain ⟨more, -, hattn⟩ := v.offer_records b
  rw [hattn, h, Bool.true_or]

theorem LaneView.handOver_attn {v : LaneView} (h : v.attn = true) (c : Condition) (live : Bool) :
    (v.handOver c live).attn = true := by
  obtain hc | hc | hc := v.handOver_cases c live <;> rw [hc]
  · exact h
  · exact h
  · exact LaneView.offer_attn (v := v.setLive c live) h _

/-- Handing over a live state adds CONDITION records alone. -/
theorem LaneView.handOver_records (v : LaneView) (c : Condition) (live : Bool) :
    ∃ more, (v.handOver c live).ln.queue.records = v.ln.queue.records ++ more ∧
      ∀ m ∈ more, m.body.isCondition = true := by
  obtain h | h | h := v.handOver_cases c live <;> rw [h]
  · exact ⟨[], (List.append_nil _).symm, fun _ hm => (List.not_mem_nil hm).elim⟩
  · exact ⟨[], (List.append_nil _).symm, fun _ hm => (List.not_mem_nil hm).elim⟩
  · cases ht : (v.setLive c live).takes (.condition c live)
    · refine ⟨[], ?_, fun _ hm => (List.not_mem_nil hm).elim⟩
      rw [LaneView.offer_refusedB _ _ ht rfl, List.append_nil]
      rfl
    · obtain ⟨⟨more, hrecords, hmore⟩, -⟩ := LaneView.offer_taken _ _ ht
      exact ⟨_ :: more, hrecords, List.forall_mem_cons.mpr ⟨rfl, fun m hm => (hmore m hm).1⟩⟩

theorem Lane.Appended.handOver {d : Lane} {v : LaneView} {r : LaneRecord} (h : d.Appended v.ln r) (c : Condition)
    (live : Bool) : d.Appended (v.handOver c live).ln r := by
  obtain ⟨first, hfirst, hcond⟩ := h
  obtain ⟨more, hmore, hcond'⟩ := v.handOver_records c live
  refine ⟨first ++ more, ?_, fun m hm => (List.mem_append.mp hm).elim (hcond m) (hcond' m)⟩
  rw [hmore, hfirst, List.append_assoc, List.cons_append]

/-! ### The disable-reason set -/

theorem Lane.Redirected.refl (d : Lane) : d.Redirected d d.port.reasons :=
  ⟨rfl, fun _ => ⟨rfl, rfl⟩, fun _ _ h => absurd rfl h, fun _ _ h => absurd rfl h⟩

theorem Lane.Redirected.queue {d e : Lane} {r : Reasons} (h : d.Redirected e r) : e.queue = d.queue := by rw [h.frame]

theorem Lane.Redirected.power {d e : Lane} {r : Reasons} (h : d.Redirected e r) : e.power = d.power := by rw [h.frame]

theorem Lane.Redirected.live {d e : Lane} {r : Reasons} (h : d.Redirected e r) : e.live = d.live := by rw [h.frame]

theorem Lane.Redirected.set {d e : Lane} {r : Reasons} (h : d.Redirected e r) : e.set = d.set := by rw [h.frame]

theorem LaneView.setReasons_setDrawer (v : LaneView) (x : Drawer) (r : Reasons) :
    (v.setDrawer x).setReasons r = (v.setReasons r).setDrawer x := by
  by_cases h : (v.ln.on && !v.ln.checking && decide (v.ln.port.reasons.desired ≠ r.desired)) = true
  · have hv : v.setReasons r = v.setPort (ScannerPort.changeDesired { v.ln.port with reasons := r } r.desired) := if_pos h
    rw [hv]
    exact if_pos h
  · have hv : v.setReasons r = v.setPort { v.ln.port with reasons := r } := if_neg h
    rw [hv]
    exact if_neg h

/-! ### Entering OPEN (R122, R123) -/

/-- The drawer as it enters OPEN at `now` with the open-long time of the settings (R123). -/
def Drawer.opening (x : Drawer) (now : Time) (set : LaneSet) : Drawer :=
  { x with state := .opened, openStart := some now, openLong := some (after now (set.openLong * 1000)) }

/-- The view is the one of an entry into OPEN with the drawer `x`: DRAWER added under inhibit-while-open, with the scanner
command that follows, on the lane `d`, and nothing else changed. -/
structure LaneView.Opening (v : LaneView) (x : Drawer) (d : Lane) (w : LaneView) : Prop where
  redirected :
    v.ln.Redirected d { v.ln.port.reasons with drawer := v.ln.port.reasons.drawer || v.ln.set.inhibitOpen }
  view : w = { v with ln := { d with drawer := x.opening v.now v.ln.set } }

theorem LaneView.enterOpen_opening (v : LaneView) (x : Drawer) : ∃ d, v.Opening x d (v.setDrawer x).enterOpen := by
  cases hi : v.ln.set.inhibitOpen with
  | true =>
    have hr := v.setReasons_redirected { v.ln.port.reasons with drawer := true }
    refine ⟨_, by rw [hi, Bool.or_true]; exact hr, ?_⟩
    have henter : (v.setDrawer x).enterOpen =
        (v.setDrawer (x.opening v.now v.ln.set)).setReasons { v.ln.port.reasons with drawer := true } := if_pos hi
    rw [henter, LaneView.setReasons_setDrawer]
    obtain ⟨p, hp, -⟩ := v.setReasons_eq { v.ln.port.reasons with drawer := true }
    rw [hp]
    rfl
  | false =>
    refine ⟨v.ln, by rw [hi, Bool.or_false]; exact .refl _, ?_⟩
    exact if_neg (show ¬v.ln.set.inhibitOpen = true by rw [hi]; exact Bool.false_ne_true)

namespace LaneView.Opening

variable {v w : LaneView} {x : Drawer} {d : Lane}

/-- The record that follows an entry into OPEN (R122, R123). -/
theorem offered (h : v.Opening x d w) (e : DrawerEvent) :
    Lane.Offered { d with drawer := x.opening v.now v.ln.set } (w.offerDrawer e).ln v.id v.now
      (.drawer e .opened none none none) := by
  rw [h.view]
  exact LaneView.offer_offered { v with ln := { d with drawer := x.opening v.now v.ln.set } }
    (.drawer e .opened none none none) rfl

theorem offerDrawer_eq (h : v.Opening x d w) (e : DrawerEvent) :
    w.offerDrawer e = w.offer (.drawer e .opened none none none) := by
  rw [h.view]
  rfl

theorem queueFrom (h : v.Opening x d w) {s : State} {l : LaneId} (hv : v.QueueFrom s l) : w.QueueFrom s l := by
  rw [h.view]
  exact ⟨hv.id, hv.now, hv.attn, h.redirected.queue.trans hv.queue⟩

/-- The entry and its record take no slot and raise no alarm. -/
theorem quiet (h : v.Opening x d w) (e : DrawerEvent) :
    (w.offerDrawer e).free = v.free ∧ (w.offerDrawer e).alarms = v.alarms := by
  obtain ⟨hfree, halarms⟩ := w.offer_quiet (.drawer e .opened none none none) rfl
  rw [h.offerDrawer_eq, hfree, halarms, h.view]
  exact ⟨rfl, rfl⟩

theorem live (h : v.Opening x d w) (e : DrawerEvent) {c : Condition} (hc : c ≠ .scannerHeld) :
    (w.offerDrawer e).ln.liveOf c = v.ln.liveOf c := by
  rw [h.offerDrawer_eq, (w.offer_frame _).ln.live c hc, h.view]
  simp only [Lane.liveOf, h.redirected.live]

theorem on (h : v.Opening x d w) (e : DrawerEvent) : (w.offerDrawer e).ln.on = v.ln.on := by
  rw [h.offerDrawer_eq, Lane.on, (w.offer_frame _).ln.power, h.view, Lane.on, ← h.redirected.power]

end LaneView.Opening

theorem State.view_queueFrom (s : State) (l : LaneId) : (s.view l).QueueFrom s l := ⟨rfl, rfl, rfl, rfl⟩

end Sys2Proof.Machine
end

section
/-!
PROOFS. The drawer (chapter 6): FLAGS, RELEASE and the local attempt, the lockdown latch, the driver fault, the drawer timers
and the changes of the debounced sense.
-/

namespace Sys2Proof.Machine

/-! ### FLAGS (R111) -/

/-- Settles O21: a flag of the set list is set, one of the clear list alone is cleared. -/
theorem flagsAreClearedThenSet : Obligations.FlagsAreClearedThenSet := by
  unfold Obligations.FlagsAreClearedThenSet
  intro s tag lane setList clearList l hs hl
  have hexec : exec (.flags tag lane setList clearList) s = .next (s.request tag (.flags lane setList clearList)) := rfl
  rw [hexec]
  refine ⟨fun hbad => ?_, fun hset hclear => ⟨(s.lanes[l].drawer.flags &&& ~~~(clearList.setWidth 4)) |||
    setList.setWidth 4, ?_, fun i => ?_⟩⟩
  · have hno : ¬(decide (setList.toNat < 16) && decide (clearList.toNat < 16)) = true := by
      simp only [Bool.and_eq_true, decide_eq_true_eq]
      omega
    exact congrArg _ (s.request_lane_same .flags tag hs (s.serve_flags lane setList clearList) rfl hl (if_neg hno))
  · have hyes : (decide (setList.toNat < 16) && decide (clearList.toNat < 16)) = true := by simp [hset, hclear]
    exact congrArg _ (State.request_answers .flags hs (s.serve_flags lane setList clearList) rfl hl (if_pos hyes))
  · have hi := i.isLt
    simp only [BitVec.getLsbD_or, BitVec.getLsbD_and, BitVec.getLsbD_not, BitVec.getLsbD_setWidth, hi, decide_true,
      Bool.true_and]
    cases setList.getLsbD i <;> cases clearList.getLsbD i <;> simp

/-! ### RELEASE and the local attempt (R112 to R116) -/

/-- The seven tests as bits, the first at bit 0. -/
theorem testBits (b : Fin 7 → Bool) (i : Fin 7) :
    (BitVec.ofNat 7 ((([b 0, b 1, b 2, b 3, b 4, b 5, b 6].zipIdx.map fun t => if t.1 then 2 ^ t.2 else 0)).sum)).getLsbD
      i = b i := by
  have hall : ∀ b0 b1 b2 b3 b4 b5 b6 : Bool,
      BitVec.ofNat 7 ((([b0, b1, b2, b3, b4, b5, b6].zipIdx.map fun t => if t.1 then 2 ^ t.2 else 0)).sum) =
        BitVec.ofBoolListLE [b0, b1, b2, b3, b4, b5, b6] := by decide
  rw [hall]
  fin_cases i <;> simp [BitVec.ofBoolListLE]

theorem Lane.trueTests_bit (d : Lane) (i : Fin 7) :
    d.trueTests.getLsbD i =
      [decide (d.keys.keylock = .operate) || decide (d.keys.keylock = .manager), decide (d.keys.keylock = .manager),
        d.drawer.flags.getLsbD 0, d.drawer.flags.getLsbD 1, d.drawer.flags.getLsbD 2, d.drawer.flags.getLsbD 3,
        d.noKeys].get i :=
  testBits [decide (d.keys.keylock = .operate) || decide (d.keys.keylock = .manager), decide (d.keys.keylock = .manager),
        d.drawer.flags.getLsbD 0, d.drawer.flags.getLsbD 1, d.drawer.flags.getLsbD 2, d.drawer.flags.getLsbD 3,
        d.noKeys].get i

/-- A test fails where the mask selects it and it is false (R112). -/
theorem Lane.failing_bit (d : Lane) (mask : TestSet) (i : Fin 7) :
    (d.failing mask).getLsbD i = (mask.getLsbD i && !d.trueTests.getLsbD i) := by
  rw [Lane.failing, BitVec.getLsbD_and, BitVec.getLsbD_not]
  simp

theorem Lane.noKeys_eq (d : Lane) : d.noKeys = decide (∀ p ∈ d.keys.downList, d.cfg.releaseKey = some p) := by
  rw [Bool.eq_iff_iff, decide_eq_true_iff, Lane.noKeys, List.all_eq_true]
  exact forall₂_congr fun p _ => decide_eq_true_iff.trans eq_comm

theorem Lane.failing_bits (d : Lane) (mask : TestSet) :
    (d.failing mask).getLsbD 0 =
      (mask.getLsbD 0 && !(decide (d.keys.keylock = .operate) || decide (d.keys.keylock = .manager))) ∧
    (d.failing mask).getLsbD 1 = (mask.getLsbD 1 && !decide (d.keys.keylock = .manager)) ∧
    (d.failing mask).getLsbD 2 = (mask.getLsbD 2 && !d.drawer.flags.getLsbD 0) ∧
    (d.failing mask).getLsbD 3 = (mask.getLsbD 3 && !d.drawer.flags.getLsbD 1) ∧
    (d.failing mask).getLsbD 4 = (mask.getLsbD 4 && !d.drawer.flags.getLsbD 2) ∧
    (d.failing mask).getLsbD 5 = (mask.getLsbD 5 && !d.drawer.flags.getLsbD 3) ∧
    (d.failing mask).getLsbD 6 =
      (mask.getLsbD 6 && !decide (∀ p ∈ d.keys.downList, d.cfg.releaseKey = some p)) := by
  have hbit (i : Fin 7) := (d.failing_bit mask i).trans (congrArg (fun b => mask.getLsbD i && !b) (d.trueTests_bit i))
  exact ⟨hbit 0, hbit 1, hbit 2, hbit 3, hbit 4, hbit 5, by rw [← d.noKeys_eq]; exact hbit 6⟩

/-- The chain of checks on an ON lane. -/
theorem LaneView.releaseCheck_on {v : LaneView} (hon : v.ln.on = true) (mask : TestSet) :
    v.releaseCheck mask =
      if v.lockdown then (ReplyCode.lockedDown, (0 : TestSet))
      else if v.ln.drawer.fault then (.faulted, 0)
      else if v.ln.drawer.state ≠ .closed then (.busy, 0)
      else if v.ln.failing mask ≠ 0 then (.denied, v.ln.failing mask)
      else (.done, 0) := by
  rw [LaneView.releaseCheck, hon, Bool.not_true, if_neg Bool.false_ne_true]

/-- A RELEASE request taken: the answer of the check, and the lane as the check leaves it. -/
theorem exec_release {s : State} {tag lane : Byte} {l : LaneId} (hs : s.ready) (hl : lane.toNat = l.val)
    {code : ReplyCode} {failing : TestSet}
    (hcheck : (s.view l).releaseCheck s.lanes[l].set.hostMask = (code, failing)) :
    exec (.release tag lane) s = .next
      ((s.answered 0x8A tag code [failing.setWidth 8]).put l
        (if code = .done then (s.view l).grant .host else s.view l)) := by
  have hserve : s.serve (.release lane) =
      (s.put l (if code = .done then (s.view l).grant .host else s.view l),
        { code := code, body := [failing.setWidth 8] }) := by
    rw [s.serve_release, s.answerLane_lane lane l _ hl]
    simp only [LaneView.serveRelease, LaneView.hostRelease]
    rw [show (s.view l).ln.set.hostMask = s.lanes[l].set.hostMask from rfl, hcheck]
  have hexec : exec (.release tag lane) s = .next (s.request tag (.release lane)) := rfl
  rw [hexec, s.request_ready tag _ hs, hserve]
  exact congrArg _ (State.pushReply_release _ tag _)

/-- A RELEASE request refused. -/
theorem exec_release_refused {s : State} {tag lane : Byte} {l : LaneId} (hs : s.ready) (hl : lane.toNat = l.val)
    {code : ReplyCode} {failing : TestSet} (hcode : code ≠ .done)
    (hcheck : (s.view l).releaseCheck s.lanes[l].set.hostMask = (code, failing)) :
    exec (.release tag lane) s = .next (s.answered 0x8A tag code [failing.setWidth 8]) := by
  rw [exec_release hs hl hcheck, if_neg hcode]
  exact congrArg _ (State.put_view (s.answered 0x8A tag code [failing.setWidth 8]) l)

/-- The drawer as a release is granted (R116). -/
def LaneView.granted (v : LaneView) : LaneView :=
  v.setDrawer
    { v.ln.drawer with
      flags := v.ln.drawer.flags &&& ~~~v.ln.set.consume
      state := .releasing
      drv := true
      pulse := some (after v.now v.ln.cfg.pulse) }

theorem LaneView.grant_eq (v : LaneView) (source : ReleaseSource) :
    v.grant source = v.granted.offer (.drawer .granted .releasing (some source) none none) := rfl

/-- Settles O20: check by check, in the order of R113; then the bits of the failing set, and the local attempt. -/
theorem releaseChecksAndGrants : Obligations.ReleaseChecksAndGrants := by
  unfold Obligations.ReleaseChecksAndGrants
  refine ⟨⟨fun s tag lane l hs hl => ?requests, Lane.failing_bits⟩, fun v hon code failing hcheck => ?attempt⟩
  case requests =>
    have hon (h : s.lanes[l].on = true) := LaneView.releaseCheck_on (v := s.view l) h s.lanes[l].set.hostMask
    refine ⟨fun h => exec_release_refused (code := .notReady) (failing := 0) hs hl (by decide) ?_,
      fun h hlock => exec_release_refused (code := .lockedDown) (failing := 0) hs hl (by decide) ?_,
      fun h hlock hfault => exec_release_refused (code := .faulted) (failing := 0) hs hl (by decide) ?_,
      fun h hlock hfault hstate => exec_release_refused (code := .busy) (failing := 0) hs hl (by decide) ?_,
      fun h hlock hfault hstate hfail => exec_release_refused (code := .denied) hs hl (by decide) ?_,
      fun h hlock hfault hstate hfail => ⟨_, exec_release hs hl (code := .done) (failing := 0) ?_, ?_, ?_, ?_⟩⟩
    · have hoff : (s.view l).ln.on = false := h
      rw [LaneView.releaseCheck, hoff, Bool.not_false, if_pos rfl]
    · rw [hon h, State.view_lockdown, hlock, if_pos rfl]
    · simp only [hon h, State.view_lockdown, State.view_ln, hlock, hfault, reduceIte, Bool.false_eq_true]
    · simp only [hon h, State.view_lockdown, State.view_ln, hlock, hfault, hstate, reduceIte, Bool.false_eq_true, ne_eq,
        not_false_eq_true]
    · simp only [hon h, State.view_lockdown, State.view_ln, hlock, hfault, hstate, hfail, reduceIte, Bool.false_eq_true, ne_eq,
        not_true_eq_false, not_false_eq_true]
    · simp only [hon h, State.view_lockdown, State.view_ln, hlock, hfault, hstate, hfail, reduceIte, Bool.false_eq_true, ne_eq,
        not_true_eq_false]
    · exact State.put_quiet ((s.view l).granted.offer_quiet _ rfl)
    · exact LaneView.QueueFrom.offeredB (v := (s.view l).granted) ⟨rfl, rfl, rfl, rfl⟩ rfl
        (congrArg Lane.queue (State.put_lanes_self _ l _)) rfl
    · rw [State.put_lanes_self]
      exact (s.view l).granted.offer_offered _ rfl
  case attempt =>
    rw [← v.releaseCheck_on hon v.ln.set.keyMask] at hcheck
    rw [LaneView.localAttempt, ← hcheck]
    exact ⟨fun hcode => if_neg hcode, fun hcode => if_pos hcode⟩

/-! ### Entering AWAIT_OPEN (R122) -/

/-- The drawer as it enters AWAIT_OPEN and waits (R122). -/
def Drawer.awaiting (x : Drawer) (now : Time) (cfg : LaneCfg) : Drawer :=
  { x with state := .awaitOpen, confirm := some (after now cfg.confirm) }

theorem LaneView.enterAwaitOpen_shut (v : LaneView) {x : Drawer} (h : x.sense ≠ some .opened) :
    (v.setDrawer x).enterAwaitOpen = v.setDrawer (x.awaiting v.now v.ln.cfg) := if_neg h

/-- With an open sense the drawer goes on into OPEN within the event. -/
theorem LaneView.enterAwaitOpen_open (v : LaneView) {x : Drawer} (h : x.sense = some .opened) :
    ∃ d w, v.Opening { x with confirm := none } d w ∧ (v.setDrawer x).enterAwaitOpen = w.offerDrawer .opened := by
  obtain ⟨d, hd⟩ := v.enterOpen_opening { x with state := .awaitOpen, confirm := none }
  have he : (v.setDrawer x).enterAwaitOpen =
      ((v.setDrawer { x with state := .awaitOpen, confirm := none }).enterOpen).offerDrawer .opened := if_pos h
  exact ⟨d, _, ⟨hd.redirected, hd.view⟩, he⟩

/-- The drawer with its pulse cut (R117, R119, R127). -/
def Drawer.cut (x : Drawer) : Drawer := { x with drv := false, pulse := none }

/-! ### The lockdown latch (R127, R128) -/

/-- One lane of a lockdown event. -/
theorem LaneView.lockdownCut_cases (v : LaneView) :
    (v.ln.drawer.state ≠ .releasing → v.lockdownCut = v) ∧
    (v.ln.drawer.state = .releasing → v.ln.drawer.sense ≠ some .opened →
      v.lockdownCut = v.setDrawer (v.ln.drawer.cut.awaiting v.now v.ln.cfg)) ∧
    (v.ln.drawer.state = .releasing → v.ln.drawer.sense = some .opened →
      ∃ d w, v.Opening { v.ln.drawer.cut with confirm := none } d w ∧ v.lockdownCut = w.offerDrawer .opened) := by
  refine ⟨LaneView.lockdownCut_same, fun hs hsense => ?_, fun hs hsense => ?_⟩
  · rw [LaneView.lockdownCut, if_pos hs]
    exact v.enterAwaitOpen_shut hsense
  · rw [LaneView.lockdownCut, if_pos hs]
    exact v.enterAwaitOpen_open (x := v.ln.drawer.cut) hsense

/-- Settles O22: the level already held, the deassertion, the assertion event lane by lane, and UNLOCK. -/
theorem lockdownCutsEveryPulseAndUnlockClears : Obligations.LockdownCutsEveryPulseAndUnlockClears := by
  unfold Obligations.LockdownCutsEveryPulseAndUnlockClears
  refine ⟨⟨fun s hs hlevel => ?held, fun s hs => ?deassert, fun s hs hlevel => ?assert⟩, fun s tag hs => ?unlock⟩
  case held =>
    unfold exec
    exact congrArg _ (if_pos (by rw [hs, hlevel]; rfl))
  case deassert =>
    unfold exec
    exact congrArg _ (if_neg (by rw [hs]; exact Bool.false_ne_true))
  case assert =>
    have hexec : exec .lkdAssert s = .next (State.lockdownEvent { s with lkdPin := true, lkdLevel := true }) := by
      unfold exec
      exact congrArg _ (if_neg (by rw [hs, hlevel]; exact Bool.false_ne_true))
    refine ⟨_, hexec, ?_, fun l => ?_⟩
    · rw [State.lockdownEvent_eq]
      rfl
    · rw [State.lockdownEvent_lanes]
      obtain ⟨hidle, hshut, hopen⟩ :=
        ((State.latched { s with lkdPin := true, lkdLevel := true }).view l).lockdownCut_cases
      refine ⟨fun h => ?_, fun h hsense => ?_, fun h hsense => ?_⟩
      · rw [hidle h]
        rfl
      · rw [hshut h hsense]
        rfl
      · obtain ⟨d, w, hw, he⟩ := hopen h hsense
        have hattn : w.attn = true := by rw [hw.view]; rfl
        refine ⟨(hw.queueFrom (s := { s with attn := true }) (l := l) ⟨rfl, rfl, rfl, rfl⟩).offeredB rfl ?_ ?_, d, hw.redirected,
          ?_⟩
        · rw [State.lockdownEvent_lanes, he, hw.offerDrawer_eq]
        · rw [State.lockdownEvent_eq, LaneView.offer_attn hattn]
          rfl
        · rw [he]
          exact hw.offered .opened
  case unlock =>
    have hkind : RequestKind.unlock.byte ≠ 0x0A#8 := by decide
    have hexec : exec (.unlock tag) s = .next (s.request tag .unlock) := rfl
    have hserve : s.serve .unlock = s.serveUnlock := rfl
    rw [hexec, s.request_ready tag _ hs, hserve]
    refine ⟨fun hlevel => ?_, fun hlevel => ?_⟩
    · rw [State.serveUnlock, if_pos hlevel]
      exact congrArg _ (State.pushReply_answer _ _ tag _ hkind)
    · rw [State.serveUnlock, if_neg (by rw [hlevel]; exact Bool.false_ne_true)]
      exact congrArg _ (State.pushReply_answer _ _ tag _ hkind)

/-! ### The driver fault (R119) -/

/-- The drawer as a driver fault is latched, its pulse cut (R119). -/
def Drawer.faulted (x : Drawer) : Drawer := { x.cut with fault := true }

/-- Settles O24: what an assertion of DOCn does follows from the entry into AWAIT_OPEN, by the debounced sense. -/
theorem driverFaultCutsThePulse : Obligations.DriverFaultCutsThePulse := by
  unfold Obligations.DriverFaultCutsThePulse
  intro s l hs
  have hdoc (h : s.lanes[l].drawer.state = .releasing) : (s.view l).docAssert =
      ((((s.view l).alarm .driverFault).setDrawer s.lanes[l].drawer.faulted).enterAwaitOpen).handOver
        .driverFault true := if_pos h
  have hexec : exec (.docAssert l) s = .next (s.laneEvent l LaneView.docAssert) := rfl
  refine ⟨fun h => s.heard_same hexec (if_neg h), fun h hsense => ⟨_, State.heard hs hexec, ?_⟩, fun h hsense => ?_⟩
  · rw [hdoc h, LaneView.enterAwaitOpen_shut _ (x := s.lanes[l].drawer.faulted) hsense]
    obtain ⟨hfree, halarms⟩ := LaneView.handOver_quiet (((s.view l).alarm .driverFault).setDrawer
      (s.lanes[l].drawer.faulted.awaiting s.timeBase s.lanes[l].cfg)) .driverFault true
    refine ⟨s.put_frame l _, hfree, halarms, LaneView.handOver_attn rfl _ _, ?_,
      LaneView.ReportsFrom.monitored (s := { s with attn := true }) (v := ((s.view l).alarm .driverFault).setDrawer _)
        ⟨rfl, rfl, rfl, rfl, rfl, rfl, rfl⟩ .driverFault true (by decide) (s.put_lanes_self l _) rfl⟩
    rw [State.put_lanes_self]
    exact LaneView.handOver_handedOver (((s.view l).alarm .driverFault).setDrawer _) .driverFault true
  · obtain ⟨d, w, hw, he⟩ := ((s.view l).alarm .driverFault).enterAwaitOpen_open
      (x := s.lanes[l].drawer.faulted) hsense
    have hattn : w.attn = true := by rw [hw.view]; rfl
    obtain ⟨hfree, halarms⟩ := hw.quiet .opened
    obtain ⟨hfree', halarms'⟩ := (w.offerDrawer .opened).handOver_quiet .driverFault true
    have hqueue : w.QueueFrom { s with attn := true } l := hw.queueFrom ⟨rfl, rfl, rfl, rfl⟩
    refine ⟨_, d, (w.offerDrawer .opened).ln, State.heard hs hexec, ?_⟩
    rw [hdoc h, he]
    refine ⟨s.put_frame l _, hfree'.trans hfree, halarms'.trans halarms,
      LaneView.handOver_attn (by rw [hw.offerDrawer_eq]; exact LaneView.offer_attn hattn _) _ _, hw.redirected,
      hw.offered .opened, ?_, fun hroom => ?_, ?_, fun c hc hheld => ?_⟩
    all_goals rw [State.put_lanes_self]
    · have hview := (w.offer_frame (.drawer .opened .opened none none none))
      have hhand := (w.offerDrawer .opened).handOver_handedOver .driverFault true
      rw [hw.offerDrawer_eq, hview.id, hview.now, hqueue.id, hqueue.now] at hhand
      rw [hw.offerDrawer_eq]
      exact hhand
    · rw [hw.offerDrawer_eq]
      exact (hqueue.appended rfl hroom).handOver .driverFault true
    · rw [LaneView.handOver_live _ _ _ (by decide), hw.on, hw.live .opened (by decide)]
      rfl
    · rw [LaneView.handOver_others _ _ _ hc hheld, hw.live .opened hheld]
      rfl

/-! ### The drawer timers (R117, R122, R123) -/

/-- Settles O25: the three expiries, each of a timer that has run out in the state it serves. -/
theorem drawerTimersMoveTheDrawer : Obligations.DrawerTimersMoveTheDrawer := by
  unfold Obligations.DrawerTimersMoveTheDrawer
  intro s l hs
  refine ⟨fun hstate hexp => ⟨fun hsense => ?_, fun hsense => ?_⟩, fun hstate hexp => ?_, fun hstate hexp => ?_⟩
  · have hpulse : (s.view l).pulseExpiry = (s.view l).cutPulse.enterAwaitOpen :=
      (if_pos (by rw [State.view_ln, State.view_now, hstate, hexp]; rfl)).trans (if_neg hsense)
    exact State.heard_alone (f := LaneView.pulseExpiry) hs rfl
      (hpulse.trans ((s.view l).enterAwaitOpen_shut (x := s.lanes[l].drawer.cut) hsense))
  · have hpulse : (s.view l).pulseExpiry = (s.view l).cutPulse.enterOpen.offerDrawer .opened :=
      (if_pos (by rw [State.view_ln, State.view_now, hstate, hexp]; rfl)).trans (if_pos hsense)
    obtain ⟨d, hw⟩ := (s.view l).enterOpen_opening s.lanes[l].drawer.cut
    refine ⟨_, d, State.heard (f := LaneView.pulseExpiry) hs rfl, ?_⟩
    rw [hpulse]
    refine ⟨State.put_quiet (hw.quiet .opened), hw.redirected, ?_,
      (hw.queueFrom (s.view_queueFrom l)).offeredB rfl ?_ ?_⟩
    · rw [State.put_lanes_self]
      exact hw.offered .opened
    · rw [State.put_lanes_self, ← hw.offerDrawer_eq]
      rfl
    · rw [← hw.offerDrawer_eq]
      rfl
  · have hconfirm : (s.view l).confirmExpiry = LaneView.offer
        ((s.view l).setDrawer { s.lanes[l].drawer with state := .closed, confirm := none, openStart := none })
        (.drawer .notOpened .closed none none none) :=
      if_pos (by rw [State.view_ln, State.view_now, hstate, hexp]; rfl)
    refine ⟨_, State.heard (f := LaneView.confirmExpiry) hs rfl, ?_⟩
    rw [hconfirm]
    refine ⟨State.put_quiet (LaneView.offer_quiet _ _ rfl), ?_,
      LaneView.QueueFrom.offeredB (v := (s.view l).setDrawer _) ⟨rfl, rfl, rfl, rfl⟩ rfl
        (congrArg Lane.queue (s.put_lanes_self l _)) rfl⟩
    rw [State.put_lanes_self]
    exact LaneView.offer_offered ((s.view l).setDrawer _) _ rfl
  · have hopenLong : (s.view l).openLongExpiry = LaneView.handOver (LaneView.offer
        ((s.view l).setDrawer { s.lanes[l].drawer with state := .openLong, openLong := none })
        (.drawer .openLong .openLong none none none)) .drawerLong true :=
      if_pos (by rw [State.view_ln, State.view_now, hstate, hexp]; rfl)
    generalize hv : (s.view l).setDrawer { s.lanes[l].drawer with state := .openLong, openLong := none } = v at hopenLong
    have hqueue : v.QueueFrom s l := by rw [← hv]; exact ⟨rfl, rfl, rfl, rfl⟩
    have hframe := v.offer_frame (.drawer .openLong .openLong none none none)
    refine ⟨_, (v.offer (.drawer .openLong .openLong none none none)).ln,
      State.heard (f := LaneView.openLongExpiry) hs rfl, ?_⟩
    rw [hopenLong]
    refine ⟨State.put_quiet ?_, ?_, ?_, fun hroom => ?_, ?_, fun c hc hheld => ?_⟩
    · obtain ⟨hfree, halarms⟩ := (v.offer (.drawer .openLong .openLong none none none)).handOver_quiet .drawerLong true
      obtain ⟨hfree', halarms'⟩ := v.offer_quiet (.drawer .openLong .openLong none none none) rfl
      rw [hfree, halarms, hfree', halarms', ← hv]
      exact ⟨rfl, rfl⟩
    · rw [← hv]
      exact LaneView.offer_offered ((s.view l).setDrawer _) _ rfl
    all_goals rw [State.put_lanes_self]
    · have hhand := (v.offer (.drawer .openLong .openLong none none none)).handOver_handedOver .drawerLong true
      rwa [hframe.id, hframe.now, hqueue.id, hqueue.now] at hhand
    · exact (hqueue.appended rfl hroom).handOver .drawerLong true
    · rw [LaneView.handOver_live _ _ _ (by decide), hframe.ln.live _ (by decide), Lane.on, hframe.ln.power, ← hv]
      rfl
    · rw [LaneView.handOver_others _ _ _ hc hheld, hframe.ln.live _ hheld, ← hv]
      rfl

end Sys2Proof.Machine
end

section
/-!
PROOFS. The debounced drawer sense (chapter 6): what the expiry of the stability timer does, by the level found and the drawer
state (R108, R109, R121 to R125).
-/

namespace Sys2Proof.Machine

/-- The drawer with the level its stability timer was timing debounced (R108). -/
def Drawer.sensed (x : Drawer) (level : Sense) : Drawer := { x with stability := none, sense := some level }

section

variable {v : LaneView} {point : Time} {level : Sense}

/-- The level found is the one already debounced. -/
theorem LaneView.stabilityExpiry_same (hon : v.ln.on = true)
    (hst : v.ln.drawer.stability = some { point := point, level := level }) (hexp : expired v.now (some point) = true)
    (hsense : v.ln.drawer.sense = some level) :
    v.stabilityExpiry = v.setDrawer { v.ln.drawer with stability := none } := by
  have hreached : reached v.now point = true := hexp
  simp [LaneView.stabilityExpiry, hst, hon, hreached, hsense]

/-- The level found is a change. -/
theorem LaneView.stabilityExpiry_change (hon : v.ln.on = true)
    (hst : v.ln.drawer.stability = some { point := point, level := level }) (hexp : expired v.now (some point) = true)
    (hsense : v.ln.drawer.sense ≠ some level) :
    v.stabilityExpiry = (v.setDrawer (v.ln.drawer.sensed level)).senseChange level := by
  have hreached : reached v.now point = true := hexp
  simp [LaneView.stabilityExpiry, hst, hon, hreached, hsense, Drawer.sensed]

end

/-- An open sense opens a drawer that is UNSENSED, CLOSED or waits in AWAIT_OPEN (R109, R122, R123, R125). -/
theorem LaneView.senseChange_open (v : LaneView) (x : Drawer) {event : DrawerEvent} {confirm : Option Time}
    (h : (x.state = .unsensed ∧ event = .initial ∧ confirm = x.confirm) ∨
      (x.state = .closed ∧ event = .forced ∧ confirm = x.confirm) ∨
      (x.state = .awaitOpen ∧ event = .opened ∧ confirm = none)) :
    ∃ d w, v.Opening { x with confirm := confirm } d w ∧
      (v.setDrawer x).senseChange .opened =
        if event = .forced then (w.offerDrawer event).alarm .forcedOpen else w.offerDrawer event := by
  obtain ⟨d, hd⟩ := v.enterOpen_opening { x with confirm := confirm }
  refine ⟨d, _, hd, ?_⟩
  obtain ⟨hs, rfl, rfl⟩ | ⟨hs, rfl, rfl⟩ | ⟨hs, rfl, rfl⟩ := h
  all_goals
    simp only [LaneView.senseChange, LaneView.setDrawer_ln_drawer, hs]
    rfl

/-- In RELEASING, and where the drawer is open already, an open sense changes the sense alone. -/
theorem LaneView.senseChange_open_idle {v : LaneView}
    (h : v.ln.drawer.state = .releasing ∨ v.ln.drawer.state = .opened ∨ v.ln.drawer.state = .openLong) :
    v.senseChange .opened = v := by
  obtain h | h | h := h <;> simp [LaneView.senseChange, h]

/-- Settles O43: the level already debounced, the states an open sense leaves, and the three it opens. -/
theorem anOpenSenseOpensTheDrawer : Obligations.AnOpenSenseOpensTheDrawer := by
  unfold Obligations.AnOpenSenseOpensTheDrawer
  intro s l point hs hon hst hexp
  have hexec : exec (.senseStabilityExpiry l) s = .next (s.laneEvent l LaneView.stabilityExpiry) := rfl
  refine ⟨fun hsense => State.heard_alone hs hexec (LaneView.stabilityExpiry_same (v := s.view l) hon hst hexp hsense),
    fun hsense => ?_⟩
  have hchange := LaneView.stabilityExpiry_change (v := s.view l) hon hst hexp hsense
  refine ⟨fun hstate => State.heard_alone hs hexec (hchange.trans (LaneView.senseChange_open_idle hstate)),
    fun event confirm hcase => ?_⟩
  obtain ⟨d, w, hw, he⟩ := (s.view l).senseChange_open (s.lanes[l].drawer.sensed .opened) hcase
  have hexpiry : (s.view l).stabilityExpiry =
      if event = .forced then (w.offerDrawer event).alarm .forcedOpen else w.offerDrawer event := hchange.trans he
  obtain ⟨hfree, halarms⟩ := hw.quiet event
  have hqueue := hw.queueFrom (s.view_queueFrom l)
  have hframe := w.offer_frame (.drawer event .opened none none none)
  have hln : (s.view l).stabilityExpiry.ln = (w.offerDrawer event).ln := by rw [hexpiry]; split <;> rfl
  refine ⟨_, d, State.heard hs hexec, s.put_frame l _, ?_, ?_, fun hforced => ?_, hw.redirected, ?_, fun hroom => ?_⟩
  · rw [State.put_poolFree, hexpiry, ← State.view_free s l, ← hfree]
    split <;> rfl
  · rw [State.put_alarms, hexpiry]
    split
    · have hraise : ((w.offerDrawer event).alarm .forcedOpen).alarms =
          raiseAlarm (w.offerDrawer event).now .forcedOpen (some (w.offerDrawer event).id) (w.offerDrawer event).alarms :=
        rfl
      rw [hraise, halarms, hw.offerDrawer_eq, hframe.now, hframe.id, hqueue.now, hqueue.id]
      rfl
    · exact halarms
  · rw [State.put_attn, hexpiry, if_pos hforced]
    rfl
  · rw [State.put_lanes_self, hln]
    exact hw.offered event
  · rw [State.put_lanes_self, hln, hw.offerDrawer_eq]
    exact hqueue.appended rfl hroom

/-! ### A closed sense (R109, R124) -/

/-- In RELEASING, AWAIT_OPEN and CLOSED a closed sense changes the sense alone. -/
theorem LaneView.senseChange_closed_idle {v : LaneView}
    (h : v.ln.drawer.state = .releasing ∨ v.ln.drawer.state = .closed ∨ v.ln.drawer.state = .awaitOpen) :
    v.senseChange .closed = v := by
  obtain h | h | h := h <;> simp [LaneView.senseChange, h]

/-- The drawer as an opening ends, before its CLOSED record (R124). -/
def Drawer.shut (x : Drawer) : Drawer := { x with openLong := none, state := .closed }

/-- The CLOSED record offered, the open start time then forgotten. -/
def LaneView.recordedShut (v : LaneView) (start : Time) : LaneView :=
  LaneView.offer (v.setDrawer v.ln.drawer.shut) (.drawer .closed .closed none none (some (v.now - start)))

/-- The open start time forgotten, and DRAWER removed. -/
def LaneView.shutEnabled (v : LaneView) (start : Time) : LaneView :=
  ((v.recordedShut start).setDrawer { (v.recordedShut start).ln.drawer with openStart := none }).setDrawerReason false

theorem LaneView.senseChange_closing {v : LaneView} {start : Time} (hstart : v.ln.drawer.openStart = some start) :
    (v.ln.drawer.state = .opened → v.senseChange .closed = v.shutEnabled start) ∧
      (v.ln.drawer.state = .openLong → v.senseChange .closed = (v.shutEnabled start).handOver .drawerLong false) := by
  have hclosing : v.closing =
      if v.ln.drawer.state = .openLong then (v.shutEnabled start).handOver .drawerLong false else v.shutEnabled start := by
    unfold LaneView.closing LaneView.shutEnabled LaneView.recordedShut LaneView.openDuration
    rw [hstart]
    rfl
  refine ⟨fun hs => ?_, fun hs => ?_⟩
  · have he : v.senseChange .closed = v.closing := by simp [LaneView.senseChange, hs]
    rw [he, hclosing, if_neg (by rw [hs]; decide)]
  · have he : v.senseChange .closed = v.closing := by simp [LaneView.senseChange, hs]
    rw [he, hclosing, if_pos hs]

section

variable (v : LaneView) (start : Time)

theorem LaneView.recordedShut_frame : (v.setDrawer v.ln.drawer.shut).OfferFrame (v.recordedShut start) :=
  LaneView.offer_frame _ _

/-- Of what the CLOSED record leaves, the removal of DRAWER changes the drawer and the scanner port alone. -/
theorem LaneView.shutEnabled_rest :
    (v.shutEnabled start).id = (v.recordedShut start).id ∧ (v.shutEnabled start).now = (v.recordedShut start).now ∧
      (v.shutEnabled start).free = (v.recordedShut start).free ∧
      (v.shutEnabled start).alarms = (v.recordedShut start).alarms ∧
      (v.shutEnabled start).attn = (v.recordedShut start).attn ∧
      (v.shutEnabled start).ln.queue = (v.recordedShut start).ln.queue ∧
      (v.shutEnabled start).ln.live = (v.recordedShut start).ln.live ∧
      (v.shutEnabled start).ln.power = (v.recordedShut start).ln.power := by
  unfold LaneView.shutEnabled LaneView.setDrawerReason
  obtain ⟨p, hp, -⟩ := LaneView.setReasons_eq ((v.recordedShut start).setDrawer
    { (v.recordedShut start).ln.drawer with openStart := none })
    { ((v.recordedShut start).setDrawer { (v.recordedShut start).ln.drawer with openStart := none }).ln.port.reasons with
      drawer := false }
  rw [hp]
  exact ⟨rfl, rfl, rfl, rfl, rfl, rfl, rfl, rfl⟩

end

/-- What the end of an opening does to the part, up to the fall of DRAWER_LONG. -/
theorem LaneView.shutEnabled_view (v : LaneView) (start : Time) :
    (v.shutEnabled start).free = v.free ∧ (v.shutEnabled start).alarms = v.alarms ∧
      (v.shutEnabled start).id = v.id ∧ (v.shutEnabled start).now = v.now ∧ (v.shutEnabled start).ln.on = v.ln.on ∧
      ∀ c : Condition, c ≠ .scannerHeld → (v.shutEnabled start).ln.liveOf c = v.ln.liveOf c := by
  obtain ⟨hid, hnow, hfree, halarms, -, -, hlive, hpower⟩ := v.shutEnabled_rest start
  have hf := v.recordedShut_frame start
  obtain ⟨hofree, hoalarms⟩ := (v.setDrawer v.ln.drawer.shut).offer_quiet
    (.drawer .closed .closed none none (some (v.now - start))) rfl
  refine ⟨hfree.trans hofree, halarms.trans hoalarms, hid.trans hf.id, hnow.trans hf.now, ?_, fun c hc => ?_⟩
  · rw [Lane.on, hpower, hf.ln.power]
    rfl
  · rw [Lane.liveOf, hlive]
    exact hf.ln.live c hc

/-- Settles O44: the level already debounced, the states a closed sense leaves, a first sense, and the end of an opening. -/
theorem aClosedSenseClosesTheDrawer : Obligations.AClosedSenseClosesTheDrawer := by
  unfold Obligations.AClosedSenseClosesTheDrawer
  intro s l point hs hon hst hexp
  have hexec : exec (.senseStabilityExpiry l) s = .next (s.laneEvent l LaneView.stabilityExpiry) := rfl
  refine ⟨fun hsense => State.heard_alone hs hexec (LaneView.stabilityExpiry_same (v := s.view l) hon hst hexp hsense),
    fun hsense => ?_⟩
  have hchange := LaneView.stabilityExpiry_change (v := s.view l) hon hst hexp hsense
  refine ⟨fun hstate => State.heard_alone hs hexec (hchange.trans (LaneView.senseChange_closed_idle hstate)),
    fun hstate => ?_, fun start hstate hstart => ?_⟩
  · have hfirst : (s.view l).stabilityExpiry = LaneView.offer
        ((s.view l).setDrawer { s.lanes[l].drawer.sensed .closed with state := .closed, openStart := none })
        (.drawer .initial .closed none none none) := by
      have hsensed : ((s.view l).ln.drawer.sensed .closed).state = .unsensed := hstate
      rw [hchange]
      simp only [LaneView.senseChange, LaneView.setDrawer_ln_drawer, hsensed]
      rfl
    refine ⟨_, State.heard hs hexec, ?_⟩
    rw [hfirst]
    refine ⟨State.put_quiet (LaneView.offer_quiet _ _ rfl), ?_,
      LaneView.QueueFrom.offeredB (v := (s.view l).setDrawer _) ⟨rfl, rfl, rfl, rfl⟩ rfl
        (congrArg Lane.queue (s.put_lanes_self l _)) rfl⟩
    rw [State.put_lanes_self]
    exact LaneView.offer_offered ((s.view l).setDrawer _) _ rfl
  · generalize hv : (s.view l).setDrawer ((s.view l).ln.drawer.sensed .closed) = v at hchange
    have hdrawer : v.ln.drawer.state = s.lanes[l].drawer.state := by rw [← hv]; rfl
    obtain ⟨hopened, hopenLong⟩ := LaneView.senseChange_closing (v := v) (start := start) (by rw [← hv]; exact hstart)
    rw [hdrawer] at hopened hopenLong
    obtain ⟨hfree, halarms, hid, hnow, hon', hlive⟩ := v.shutEnabled_view start
    obtain ⟨-, -, -, -, -, hqueue, -, -⟩ := v.shutEnabled_rest start
    have hfrom : (v.setDrawer v.ln.drawer.shut).QueueFrom s l := by rw [← hv]; exact ⟨rfl, rfl, rfl, rfl⟩
    have hviewOn : v.ln.on = true := by rw [← hv]; exact hon
    have hviewLive (c : Condition) : v.ln.liveOf c = s.lanes[l].liveOf c := by rw [← hv]; rfl
    have hhand : s.lanes[l].drawer.state = .openLong →
        (s.view l).stabilityExpiry = (v.shutEnabled start).handOver .drawerLong false :=
      fun h => hchange.trans (hopenLong h)
    have hstay : s.lanes[l].drawer.state = .opened → (s.view l).stabilityExpiry = v.shutEnabled start :=
      fun h => hchange.trans (hopened h)
    refine ⟨_, (v.recordedShut start).ln, (v.shutEnabled start).ln, State.heard hs hexec, State.put_quiet ?_, ?_, ?_,
      fun h => ?_, fun h => ?_, fun c hc hheld => ?_, ?_, fun hroom => ?_⟩
    · have hsame : v.free = s.poolFree ∧ v.alarms = s.alarms := by rw [← hv]; exact ⟨rfl, rfl⟩
      obtain h | h := hstate
      · rw [hstay h, hfree, halarms]
        exact hsame
      · obtain ⟨hfree', halarms'⟩ := (v.shutEnabled start).handOver_quiet .drawerLong false
        rw [hhand h, hfree', halarms', hfree, halarms]
        exact hsame
    · rw [← hv]
      exact LaneView.offer_offered (((s.view l).setDrawer _).setDrawer _) _ rfl
    · exact LaneView.setReasons_redirected ((v.recordedShut start).setDrawer
        { (v.recordedShut start).ln.drawer with openStart := none }) _
    all_goals rw [State.put_lanes_self]
    · rw [hstay h]
    · have hto := (v.shutEnabled start).handOver_handedOver .drawerLong false
      rw [hid, hnow] at hto
      rw [hhand h]
      rw [← hv] at hto ⊢
      exact hto
    · obtain h | h := hstate
      · rw [hstay h, hlive c hheld, hviewLive]
      · rw [hhand h, LaneView.handOver_others _ _ _ hc hheld, hlive c hheld, hviewLive]
    · obtain h | h := hstate
      · rw [hstay h, hlive _ (by decide), hviewLive, if_neg (by rw [h]; decide)]
      · rw [hhand h, LaneView.handOver_live _ _ _ (by decide), hon', hviewOn, if_pos rfl, if_pos h]
    · have happ : s.lanes[l].Appended (v.shutEnabled start).ln
          (s.recordOf l (.drawer .closed .closed none none (some (s.timeBase - start)))) := by
        have hnow' : v.now = s.timeBase := by rw [← hv]; rfl
        obtain ⟨more, hmore, hcond⟩ := hfrom.appended
          (b := .drawer .closed .closed none none (some (v.now - start))) rfl hroom
        rw [hnow'] at hmore
        refine ⟨more, ?_, hcond⟩
        rw [hqueue, LaneView.recordedShut, hnow']
        exact hmore
      obtain h | h := hstate
      · rw [hstay h]
        exact happ
      · rw [hhand h]
        exact happ.handOver .drawerLong false

end Sys2Proof.Machine
end

section
/-!
PROOFS. Lane power (chapter 1): the POWER request, the power fault and the settle expiry, on what a lane that leaves or enters
ON does whole.
-/

namespace Sys2Proof.Machine

/-! ### An offer outside ON -/

/-- Outside ON an evaluation of FLOW gives it its value and does nothing else (R104). -/
theorem LaneView.evalFlow_off_eq {v : LaneView} (hoff : v.ln.on = false) :
    v.evalFlow flowFuel =
      v.setPort { v.ln.port with reasons := { v.ln.port.reasons with flow := v.ln.flowOf } } := by
  rw [show flowFuel = 1 + 1 from rfl]
  unfold LaneView.evalFlow
  rw [Lane.flowVerdict_eq]
  by_cases hsame : v.ln.flowOf = v.ln.port.reasons.flow
  · rw [if_pos hsame, hsame]
    rfl
  · rw [if_neg hsame]
    dsimp only
    rw [LaneView.setReasons_off hoff]
    have hon : (v.setPort { v.ln.port with reasons := { v.ln.port.reasons with flow := v.ln.flowOf } }).ln.on = false :=
      hoff
    rw [hon, Bool.false_and, if_neg Bool.false_ne_true]

/-- A record taken outside ON leaves no other behind it. -/
theorem LaneView.offer_off {v : LaneView} (hoff : v.ln.on = false) {b : RecordBody} (ht : v.takes b = true) :
    v.offer b =
      (v.enqueue b).setPort
        { v.ln.port with reasons := { v.ln.port.reasons with flow := (v.enqueue b).ln.flowOf } } := by
  rw [LaneView.offer, if_pos ht]
  exact LaneView.evalFlow_off_eq (v := v.enqueue b) hoff

theorem LaneView.offer_off_records {v : LaneView} (hoff : v.ln.on = false) {b : RecordBody} (hb : b.classA = false)
    (hroom : v.ln.count < 32) : (v.offer b).ln.queue.records = v.ln.queue.records ++ [v.record b] := by
  rw [LaneView.offer_off hoff (by rw [LaneView.takes_classB _ b hb]; exact decide_eq_true hroom)]
  rfl

/-! ### What an offer keeps, seen from the lane -/

theorem Lane.taking_frame (d : Lane) (l : LaneId) (now : Time) (b : RecordBody) : d.OfferFrame (d.taking l now b) := by
  constructor
  case live => exact fun _ _ => rfl
  all_goals rfl

theorem Lane.losing_frame (d : Lane) : d.OfferFrame d.losing := by
  constructor
  case live => exact fun _ _ => rfl
  all_goals rfl

theorem Lane.Offered.frame {d e : Lane} {l : LaneId} {now : Time} {b : RecordBody} (h : d.Offered e l now b) :
    d.OfferFrame e := by
  by_cases hroom : d.count < 32
  · exact (d.taking_frame l now b).trans (h.taken hroom).frame
  · rw [h.refused (Nat.not_lt.mp hroom)]
    exact d.losing_frame

/-! ### Leaving for OFF or TRIPPED (R6, R7, R9, R11, R170) -/

/-- The view as its lane leaves, its running check ended, before the LANE record. -/
def LaneView.leaving (v : LaneView) (dest : LaneState) : LaneView :=
  { if v.ln.checking then v.closeCheck .lane else v with
    ln := (if v.ln.checking then v.closeCheck .lane else v).ln.leave dest }

theorem LaneView.leaveFor_eq (v : LaneView) (dest : LaneState) :
    v.leaveFor dest = (v.leaving dest).offer (.lane dest v.ln.leavingProgress) := rfl

section

variable {v : LaneView} {dest : LaneState}

theorem LaneView.leaving_idle (h : v.ln.checking = false) :
    v.leaving dest = { v with ln := v.ln.leave dest } := by
  rw [LaneView.leaving, h]
  rfl

theorem LaneView.leaving_check (h : v.ln.checking = true) :
    v.leaving dest = { v.closeCheck .lane with ln := (v.closeCheck .lane).ln.leave dest } := by
  rw [LaneView.leaving, h]
  rfl

theorem LaneView.leaving_off (hdest : dest = .off ∨ dest = .tripped) : (v.leaving dest).ln.on = false := by
  obtain rfl | rfl := hdest <;> rfl

theorem LaneView.closeCheck_quiet (v : LaneView) (cause : EndCause) :
    (v.closeCheck cause).free = v.free ∧ (v.closeCheck cause).alarms = v.alarms :=
  (v.setChecker v.ln.checker.cut).offer_quiet (v.ln.checker.report cause) rfl

theorem LaneView.leaveFor_quiet (v : LaneView) (dest : LaneState) :
    (v.leaveFor dest).free = v.free ∧ (v.leaveFor dest).alarms = v.alarms := by
  obtain ⟨hfree, halarms⟩ := (v.leaving dest).offer_quiet (.lane dest v.ln.leavingProgress) rfl
  rw [LaneView.leaveFor_eq, hfree, halarms]
  cases h : v.ln.checking
  · rw [LaneView.leaving_idle h]
    exact ⟨rfl, rfl⟩
  · rw [LaneView.leaving_check h]
    exact v.closeCheck_quiet .lane

theorem LaneView.leaveFor_attn (h : v.attn = true) : (v.leaveFor dest).attn = true := by
  rw [LaneView.leaveFor_eq]
  refine LaneView.offer_attn ?_ _
  cases hc : v.ln.checking
  · rw [LaneView.leaving_idle hc]
    exact h
  · rw [LaneView.leaving_check hc]
    exact LaneView.offer_attn (v := v.setChecker v.ln.checker.cut) h _

/-- What the leaving keeps of the lane, a running check ended or not. -/
theorem LaneView.leaving_kept (v : LaneView) (dest : LaneState) :
    (v.leaving dest).ln.power =
        { state := dest, progress := none, start := v.ln.power.start, timer := none, pen := false } ∧
      v.ln.KeptByReset (v.leaving dest).ln ∧ (v.leaving dest).ln.pins = v.ln.pins ∧
      (v.leaving dest).ln.checker.freeIdx = v.ln.checker.freeIdx ∧ (v.leaving dest).id = v.id ∧
      (v.leaving dest).now = v.now := by
  cases h : v.ln.checking
  · rw [LaneView.leaving_idle h]
    exact ⟨rfl, ⟨rfl, rfl, rfl, rfl, rfl⟩, rfl, rfl, rfl, rfl⟩
  · rw [LaneView.leaving_check h]
    have hf := (v.setChecker v.ln.checker.cut).offer_frame (v.ln.checker.report .lane)
    have hstart : (v.closeCheck .lane).ln.power.start = v.ln.power.start := congrArg PowerCtl.start hf.ln.power
    have hflags : (v.closeCheck .lane).ln.drawer.flags = v.ln.drawer.flags := congrArg Drawer.flags hf.ln.drawer
    have hfreeIdx : (v.closeCheck .lane).ln.checker.freeIdx = v.ln.checker.freeIdx := by
      show ((v.setChecker v.ln.checker.cut).offer (v.ln.checker.report .lane)).ln.checker.freeIdx = _
      rw [hf.ln.checker]
      rfl
    refine ⟨?_, ⟨hf.ln.cfg, hf.ln.keymap, hf.ln.set, hf.ln.counters, hflags⟩, hf.ln.pins, hfreeIdx, hf.id, hf.now⟩
    rw [← hstart]
    rfl

theorem LaneView.leaving_records (h : v.ln.checking = true) (hroom : v.ln.count < 32)
    (hflow : (v.ln.taking v.id v.now (v.ln.checker.report .lane)).flowOf = v.ln.port.reasons.flow) :
    (v.leaving dest).ln.queue = (v.ln.taking v.id v.now (v.ln.checker.report .lane)).queue := by
  obtain ⟨reported, ho, he⟩ := v.closeCheck_closes .lane
  have hstill := (ho.taken hroom).still hflow
  rw [LaneView.leaving_check h]
  calc (v.closeCheck .lane).ln.queue = reported.queue := by rw [he]
    _ = _ := by rw [hstill]; rfl

theorem LaneView.leaving_records_held (h : v.ln.checking = true) (hon : v.ln.on = true) (hroom : v.ln.count < 30)
    (hr : v.ln.set.InRange) (hflow : v.ln.port.reasons.flow = false) (hlive : v.ln.liveOf .scannerHeld = false)
    (hrep : v.ln.Reports .scannerHeld true)
    (hfull : (v.ln.taking v.id v.now (v.ln.checker.report .lane)).flowOf = true) :
    (v.leaving dest).ln.queue =
      ((v.ln.taking v.id v.now (v.ln.checker.report .lane)).taking v.id v.now (.condition .scannerHeld true)).queue := by
  obtain ⟨reported, ho, he⟩ := v.closeCheck_closes .lane
  have hev := ho.taken (show v.ln.count < 32 by omega)
  have hqueue := hev.queue hr
  have hof : (v.ln.cutting.taking v.id v.now (v.ln.checker.report .lane)).flowOf = true := hfull
  have hcount : (v.ln.cutting.taking v.id v.now (v.ln.checker.report .lane)).count < 32 := by
    have hlen : (v.ln.cutting.taking v.id v.now (v.ln.checker.report .lane)).count = v.ln.count + 1 := by
      simp [Lane.count, Lane.taking]
    omega
  have hchange : (v.ln.cutting.taking v.id v.now (v.ln.checker.report .lane)).on = true ∧
      (v.ln.cutting.taking v.id v.now (v.ln.checker.report .lane)).flowOf ≠
        (v.ln.cutting.taking v.id v.now (v.ln.checker.report .lane)).port.reasons.flow ∧
      (v.ln.cutting.taking v.id v.now (v.ln.checker.report .lane)).flowOf ≠
        (v.ln.cutting.taking v.id v.now (v.ln.checker.report .lane)).liveOf .scannerHeld ∧
      (v.ln.cutting.taking v.id v.now (v.ln.checker.report .lane)).Reports .scannerHeld
        (v.ln.cutting.taking v.id v.now (v.ln.checker.report .lane)).flowOf := by
    rw [hof]
    exact ⟨hon, fun e => Bool.false_ne_true (hflow.symm.trans e.symm),
      fun e => Bool.false_ne_true (hlive.symm.trans e.symm), hrep⟩
  rw [if_pos hchange, if_pos hcount, hof] at hqueue
  rw [LaneView.leaving_check h]
  calc (v.closeCheck .lane).ln.queue = reported.queue := by rw [he]
    _ = _ := hqueue

end

/-- A lane that left, from the state its view shows. -/
theorem State.laneLeft {s t : State} {l : LaneId} {v : LaneView} {dest : LaneState}
    (hdest : dest = .off ∨ dest = .tripped) (hid : v.id = l) (hnow : v.now = s.timeBase) (hattn : v.attn = s.attn)
    (hv : v.ln = s.lanes[l]) (hln : t.lanes[l] = (v.leaveFor dest).ln) (ht : t.attn = (v.leaveFor dest).attn) :
    s.LaneLeft t l dest v.ln.leavingProgress := by
  obtain ⟨hpower, ⟨hcfg, hkeymap, hset, hcounters, hflags⟩, hpins, hfreeIdx, hlid, hlnow⟩ := v.leaving_kept dest
  have hf := (v.leaving dest).offer_frame (.lane dest v.ln.leavingProgress)
  have hoff := LaneView.leaving_off (v := v) hdest
  have hrecords (hroom : (v.leaving dest).ln.count < 32) :=
    LaneView.offer_off_records hoff (b := .lane dest v.ln.leavingProgress) rfl hroom
  have hlane : (v.leaving dest).record (.lane dest v.ln.leavingProgress) =
      { lane := l, seq := (v.leaving dest).ln.queue.seq, time := s.timeBase, lost := (v.leaving dest).ln.queue.loss
        body := .lane dest v.ln.leavingProgress } := by
    rw [LaneView.record, hlid, hlnow, hid, hnow]
  rw [LaneView.leaveFor_eq] at hln
  refine { power := ?power, blocks := ?blocks, kept := ?kept, pins := ?pins, freeIdx := ?freeIdx, alone := fun hc => ?alone,
           afterCheck := fun hc hroom hflow => ?afterCheck
           heldAfterCheck := fun hc hon hroom hr hflow hlive hrep hfull => ?held, whole := ?whole }
  case power => rw [hln, hf.ln.power, hpower, hv]
  case blocks =>
    rw [hln]
    refine ((v.leaveFor_tabled hdest).2 ?_)
    rw [LaneView.leaveFor_eq, Lane.on, hf.ln.power]
    exact hoff
  case kept =>
    rw [hln, ← hv]
    exact ⟨hf.ln.cfg.trans hcfg, hf.ln.keymap.trans hkeymap, hf.ln.set.trans hset, hf.ln.counters.trans hcounters,
      (congrArg Drawer.flags hf.ln.drawer).trans hflags⟩
  case pins => rw [hln, hf.ln.pins, hpins, hv]
  case freeIdx => rw [hln, hf.ln.checker, hfreeIdx, hv]
  case alone =>
    rw [← hv] at hc
    have hview := LaneView.leaving_idle (v := v) (dest := dest) hc
    refine LaneView.QueueFrom.offeredB (v := v.leaving dest) ?_ rfl (congrArg Lane.queue hln) ht
    rw [hview]
    exact ⟨hid, hnow, hattn, show v.ln.queue = _ from congrArg Lane.queue hv⟩
  case afterCheck =>
    rw [← hv] at hc hroom
    rw [← hv, ← hid, ← hnow] at hflow
    have hqueue := LaneView.leaving_records (dest := dest) hc (by omega) hflow
    have hcount : (v.leaving dest).ln.count < 32 := by
      rw [Lane.count] at hroom ⊢
      simp only [hqueue, Lane.taking, List.length_append, List.length_singleton]
      omega
    rw [hln, hrecords hcount, hlane, hqueue, hid, hnow, hv]
    simp only [Lane.taking, List.append_assoc, List.cons_append, List.nil_append]
    rfl
  case held =>
    rw [← hv] at hc hon hroom hr hflow hlive hrep
    rw [← hv, ← hid, ← hnow] at hfull
    have hqueue := LaneView.leaving_records_held (dest := dest) hc hon hroom hr hflow hlive hrep hfull
    have hcount : (v.leaving dest).ln.count < 32 := by
      rw [Lane.count] at hroom ⊢
      simp only [hqueue, Lane.taking, List.length_append, List.length_singleton]
      omega
    rw [hln, hrecords hcount, hlane, hqueue, hid, hnow, hv]
    simp only [Lane.taking, List.append_assoc, List.cons_append, List.nil_append, BitVec.add_assoc]
    rfl
  case whole =>
    obtain ⟨m, hidle, hcheck, ho⟩ := v.leaveFor_leaves dest
    rw [hid, hnow, hv] at hcheck
    rw [hid, hnow] at ho
    rw [hv] at hidle
    exact ⟨m, hidle, hcheck, by rw [hln]; exact ho⟩

/-! ### POWER (R2, R3, R6) -/

/-- The power controller as SETTLING is entered, its first milestone due 5 ms later (R3, R4). -/
theorem enteringSettling_eq (now : Time) :
    enteringSettling now =
      { state := .settling, progress := none, start := some now, timer := some (now + 5), pen := true } := rfl

theorem LaneView.servePower_on (v : LaneView) : v.servePower 1 = codeOnly v.powerOn := rfl

theorem LaneView.servePower_off (v : LaneView) : v.servePower 0 = codeOnly v.powerOff := rfl

section

variable {s : State} {tag lane : Byte} {l : LaneId} {w : LaneView} {code : ReplyCode}

theorem exec_powerOn (hs : s.ready) (hl : lane.toNat = l.val) (hf : (s.view l).powerOn = (w, code)) :
    exec (.powerOn tag lane) s = .next ((s.answered 0x88 tag code []).put l w) :=
  congrArg _ (State.request_answers .power hs (s.serve_power lane 1) rfl hl
    (by rw [LaneView.servePower_on, hf]; rfl))

theorem exec_powerOff (hs : s.ready) (hl : lane.toNat = l.val) (hf : (s.view l).powerOff = (w, code)) :
    exec (.powerOff tag lane) s = .next ((s.answered 0x88 tag code []).put l w) :=
  congrArg _ (State.request_answers .power hs (s.serve_power lane 0) rfl hl
    (by rw [LaneView.servePower_off, hf]; rfl))

/-- A request that leaves its lane as it viewed it. -/
theorem State.answered_put_view (kind : Byte) (body : List Byte) :
    (s.answered kind tag code body).put l (s.view l) = s.answered kind tag code body :=
  State.put_view (s.answered kind tag code body) l

end

/-- The view as SETTLING is entered, its LANE record not yet offered (R3). -/
def LaneView.settling (v : LaneView) : LaneView := v.setPower (enteringSettling v.now)

theorem LaneView.enterSettling_eq (v : LaneView) :
    v.enterSettling =
      if v.ln.pins.pfl then (v.settling.offer (.lane .settling none)).trip
      else v.settling.offer (.lane .settling none) := by
  unfold LaneView.enterSettling
  dsimp only
  rw [show ((v.setPower (enteringSettling v.now)).offer (.lane .settling none)).ln.pins.pfl = v.ln.pins.pfl from
    congrArg LanePins.pfl (LaneView.offer_frame _ _).ln.pins]
  rfl

/-- SETTLING entered under an asserted PFLn: both records, and the reset (R3, R7). -/
theorem LaneView.settling_trip {v : LaneView} (hc : v.ln.checking = false) :
    ∃ w : LaneView, (v.settling.offer (.lane .settling none)).trip = w.offer (.lane .tripped none) ∧
      w = { (v.settling.offer (.lane .settling none)).alarm .powerTrip with
            ln := (v.settling.offer (.lane .settling none)).ln.departed .tripped } := by
  have hf := v.settling.offer_frame (.lane .settling none)
  have hidle : ((v.settling.offer (.lane .settling none)).alarm .powerTrip).ln.checking = false := by
    rw [← hc]
    exact congrArg (fun x : LineChecker => decide (x.state ≠ .idle)) hf.ln.checker
  have hprogress : ((v.settling.offer (.lane .settling none)).alarm .powerTrip).ln.leavingProgress = none := by
    rw [Lane.leavingProgress]
    have hpower : ((v.settling.offer (.lane .settling none)).alarm .powerTrip).ln.power = enteringSettling v.now :=
      hf.ln.power
    rw [hpower]
    exact ite_self _
  refine ⟨_, ?_, rfl⟩
  rw [LaneView.trip, LaneView.leaveFor_eq, LaneView.leaving_idle hidle, hprogress]
  rfl

section

variable {v : LaneView}

theorem LaneView.powerOn_powered (h : v.ln.power.state = .settling ∨ v.ln.power.state = .on) :
    v.powerOn = (v, .done) := by
  obtain h | h := h <;> simp [LaneView.powerOn, h]

theorem LaneView.powerOn_tripped (h : v.ln.power.state = .tripped) : v.powerOn = (v, .faulted) := by
  simp [LaneView.powerOn, h]

theorem LaneView.powerOn_off (h : v.ln.power.state = .off) :
    v.powerOn =
      (if v.ln.pins.pfl then (v.settling.offer (.lane .settling none)).trip
        else v.settling.offer (.lane .settling none), .done) := by
  simp [LaneView.powerOn, h, LaneView.enterSettling_eq]

theorem LaneView.powerOff_off (h : v.ln.power.state = .off) : v.powerOff = (v, .done) := by
  simp [LaneView.powerOff, h]

theorem LaneView.powerOff_releasing (h : v.ln.power.state = .on) (hd : v.ln.drawer.state = .releasing) :
    v.powerOff = (v, .busy) := by
  simp [LaneView.powerOff, h, hd]

theorem LaneView.powerOff_leaves
    (h : v.ln.power.state = .settling ∨ (v.ln.power.state = .on ∧ v.ln.drawer.state ≠ .releasing) ∨
      v.ln.power.state = .tripped) : v.powerOff = (v.leaveFor .off, .done) := by
  obtain h | ⟨h, hd⟩ | h := h
  · simp [LaneView.powerOff, h, LaneView.enterOff]
  · simp [LaneView.powerOff, h, hd, LaneView.enterOff]
  · simp [LaneView.powerOff, h, LaneView.enterOff]

theorem Lane.leavingProgress_powered {d : Lane} (h : d.powered = true) : d.leavingProgress = d.power.progress := if_pos h

theorem Lane.leavingProgress_tripped {d : Lane} (h : d.power.state = .tripped) : d.leavingProgress = none := by
  simp [Lane.leavingProgress, Lane.powered, h]

end

/-- A POWER off that leaves, from the state its view shows. -/
theorem exec_powerOff_leaves {s : State} {tag lane : Byte} {l : LaneId} (hs : s.ready) (hl : lane.toNat = l.val)
    (h : s.lanes[l].power.state = .settling ∨
      (s.lanes[l].power.state = .on ∧ s.lanes[l].drawer.state ≠ .releasing) ∨ s.lanes[l].power.state = .tripped) :
    ∃ t, exec (.powerOff tag lane) s = .next t ∧ State.QuietFrame (s.answered 0x88 tag .done []) t l ∧
      s.LaneLeft t l .off s.lanes[l].leavingProgress :=
  ⟨_, exec_powerOff hs hl (LaneView.powerOff_leaves (v := s.view l) h),
    State.put_quiet ((s.view l).leaveFor_quiet .off),
    State.laneLeft (v := s.view l) (.inl rfl) rfl rfl rfl rfl (State.put_lanes_self _ l _) rfl⟩

/-- SETTLING entered by a POWER on that finds PFLn asserted: the lane is TRIPPED at the end of the request (R3, R7). -/
theorem LaneView.settlingTrip_left {s t : State} {l : LaneId}
    (hcheck : s.lanes[l].checking = false)
    (hln : t.lanes[l] = (((s.view l).settling.offer (.lane .settling none)).trip).ln) :
    t.lanes[l].power =
        { state := .tripped, progress := none, start := some s.timeBase, timer := none, pen := false } ∧
      (∃ m : Lane, (s.view l).settling.ln.Offered m l s.timeBase (.lane .settling none) ∧
        (m.departed .tripped).Offered t.lanes[l] l s.timeBase (.lane .tripped none)) ∧
      t.lanes[l].AtLocalReset ∧ s.lanes[l].KeptByReset t.lanes[l] ∧ t.lanes[l].pins = s.lanes[l].pins ∧
      t.lanes[l].checker.freeIdx = s.lanes[l].checker.freeIdx ∧
      (s.lanes[l].count < 31 →
        t.lanes[l].queue.records =
          s.lanes[l].queue.records ++
            [s.recordOf l (.lane .settling none),
              { s.recordOf l (.lane .tripped none) with seq := s.lanes[l].queue.seq + 1, lost := 0 }]) := by
  have hoffered := (s.view l).settling.offer_offered (.lane .settling none) rfl
  have hof := (s.view l).settling.offer_frame (.lane .settling none)
  have htabled := (LaneView.trip_tabled ((s.view l).settling.offer (.lane .settling none)))
  have hsflags : ((s.view l).settling.offer (.lane .settling none)).ln.drawer.flags = s.lanes[l].drawer.flags := by
    rw [hof.ln.drawer]
    rfl
  have hsfreeIdx : ((s.view l).settling.offer (.lane .settling none)).ln.checker.freeIdx = s.lanes[l].checker.freeIdx := by
    rw [hof.ln.checker]
    rfl
  obtain ⟨w, hw, hview⟩ := LaneView.settling_trip (v := s.view l) hcheck
  rw [hw] at hln htabled
  have hf := w.offer_frame (.lane .tripped none)
  have hwid : w.id = l := by rw [hview]; exact hof.id
  have hwnow : w.now = s.timeBase := by rw [hview]; exact hof.now
  have hwln : w.ln = ((s.view l).settling.offer (.lane .settling none)).ln.departed .tripped := by rw [hview]
  have hpower : t.lanes[l].power =
      { state := .tripped, progress := none, start := some s.timeBase, timer := none, pen := false } := by
    have hstart : ((s.view l).settling.offer (.lane .settling none)).ln.power.start = some s.timeBase :=
      congrArg PowerCtl.start hof.ln.power
    rw [hln, hf.ln.power, hwln]
    dsimp only [Lane.departed]
    rw [hstart]
  refine ⟨hpower, ⟨_, hoffered, ?_⟩, ?_, ?_, ?_, ?_, fun hroom => ?_⟩
  · have ho := w.offer_offered (.lane .tripped none) rfl
    rwa [hwid, hwnow, hwln, ← hln] at ho
  · rw [hln]
    refine htabled.2 ?_
    rw [← hln, Lane.on, hpower]
    rfl
  · have hk : s.lanes[l].KeptByReset w.ln := by
      rw [hwln]
      exact ⟨hof.ln.cfg, hof.ln.keymap, hof.ln.set, hof.ln.counters, hsflags⟩
    obtain ⟨hcfg, hkeymap, hset, hcounters, hflags⟩ := hk
    rw [hln]
    exact ⟨hf.ln.cfg.trans hcfg, hf.ln.keymap.trans hkeymap, hf.ln.set.trans hset, hf.ln.counters.trans hcounters,
      (congrArg Drawer.flags hf.ln.drawer).trans hflags⟩
  · rw [hln, hf.ln.pins, hwln]
    exact hof.ln.pins
  · rw [hln, hf.ln.checker, hwln]
    exact hsfreeIdx
  · have hson : (s.view l).settling.ln.on = false := rfl
    have htakes : (s.view l).settling.takes (.lane .settling none) = true := by
      rw [LaneView.takes_classB _ _ rfl]
      exact decide_eq_true (show s.lanes[l].count < 32 by omega)
    have hqueue : w.ln.queue = ((s.view l).settling.enqueue (.lane .settling none)).ln.queue := by
      rw [hwln, LaneView.offer_off hson htakes]
      rfl
    have hwoff : w.ln.on = false := by rw [hwln]; rfl
    have hwroom : w.ln.count < 32 := by
      rw [Lane.count, hqueue]
      rw [Lane.count] at hroom
      simp only [LaneView.enqueue, LaneView.setQueue_ln_queue, List.length_append, List.length_singleton]
      exact Nat.succ_lt_succ hroom
    rw [hln, LaneView.offer_off_records hwoff rfl hwroom, LaneView.record, hwid, hwnow, hqueue]
    exact List.append_assoc _ _ _

/-- Settles O12: POWER on and POWER off, state by state. -/
theorem powerFollowsTheLaneState : Obligations.PowerFollowsTheLaneState := by
  unfold Obligations.PowerFollowsTheLaneState
  refine ⟨fun s tag lane l hs hl => ⟨fun hstate => ?_, fun hstate => ?_, fun hstate hpfl => ?_,
    fun hstate hpfl hcheck => ?_⟩, fun s tag lane l hs hl => ⟨fun hstate => ?_, fun hstate hdrawer => ?_,
    fun hstate => ?_, fun hstate => ?_⟩⟩
  · rw [exec_powerOn hs hl (LaneView.powerOn_powered (v := s.view l) hstate), State.answered_put_view]
  · rw [exec_powerOn hs hl (LaneView.powerOn_tripped (v := s.view l) hstate), State.answered_put_view]
  · have hon : (s.view l).powerOn = ((s.view l).settling.offer (.lane .settling none), .done) := by
      rw [LaneView.powerOn_off (v := s.view l) hstate, if_neg (by rw [State.view_ln, hpfl]; exact Bool.false_ne_true)]
    refine ⟨_, exec_powerOn hs hl hon, State.put_quiet ((s.view l).settling.offer_quiet _ rfl),
      LaneView.QueueFrom.offeredB (v := (s.view l).settling) ⟨rfl, rfl, rfl, rfl⟩ rfl
        (congrArg Lane.queue (State.put_lanes_self _ l _)) rfl, ?_⟩
    rw [State.put_lanes_self]
    exact (s.view l).settling.offer_offered _ rfl
  · have hon : (s.view l).powerOn = (((s.view l).settling.offer (.lane .settling none)).trip, .done) := by
      rw [LaneView.powerOn_off (v := s.view l) hstate, State.view_ln, if_pos hpfl]
    have hf := (s.view l).settling.offer_frame (.lane .settling none)
    obtain ⟨hfree, -⟩ := (s.view l).settling.offer_quiet (.lane .settling none) rfl
    obtain ⟨htfree, htalarms⟩ :=
      (((s.view l).settling.offer (.lane .settling none)).alarm .powerTrip).leaveFor_quiet .tripped
    refine ⟨_, exec_powerOn hs hl hon, State.put_frame _ l _, htfree.trans hfree, htalarms.trans ?_,
      LaneView.leaveFor_attn rfl, LaneView.settlingTrip_left hcheck (State.put_lanes_self _ l _)⟩
    show raiseAlarm _ .powerTrip (some _) _ = _
    rw [hf.now, hf.id, hf.alarms]
    rfl
  · rw [exec_powerOff hs hl (LaneView.powerOff_off (v := s.view l) hstate), State.answered_put_view]
  · rw [exec_powerOff hs hl (LaneView.powerOff_releasing (v := s.view l) hstate hdrawer), State.answered_put_view]
  · have hpowered : s.lanes[l].powered = true := by
      obtain h | ⟨h, -⟩ := hstate <;> simp only [Lane.powered, h] <;> rfl
    have hleft := exec_powerOff_leaves (tag := tag) hs hl (hstate.imp_right .inl)
    rwa [Lane.leavingProgress_powered hpowered] at hleft
  · have hleft := exec_powerOff_leaves (tag := tag) hs hl (.inr (.inr hstate))
    rwa [Lane.leavingProgress_tripped hstate] at hleft

/-! ### The power fault (R7, R16) -/

theorem State.LaneFrame.withAttn {s t : State} {l : LaneId} (h : s.LaneFrame t l) (attn : Bool) :
    State.LaneFrame { s with attn := attn } t l :=
  { lanes := h.lanes, rules := h.rules, pointers := h.pointers, lockdown := h.lockdown, lkdLevel := h.lkdLevel
    link := h.link, resetCause := h.resetCause, resetFlag := h.resetFlag, porHold := h.porHold
    rstAsserted := h.rstAsserted, resetSource := h.resetSource, timeBase := h.timeBase, lkdPin := h.lkdPin
    pending := h.pending }

/-- Settles O13: the level moves first; a powered lane then trips, any other stands. -/
theorem powerFaultTripsAPoweredLane : Obligations.PowerFaultTripsAPoweredLane := by
  unfold Obligations.PowerFaultTripsAPoweredLane
  intro s l hs
  have hexec : exec (.pflAssert l) s = .next
      ((s.withLaneAs l { s.lanes[l] with pins := { s.lanes[l].pins with pfl := true } }).laneEvent l
        fun v => if v.ln.powered then v.trip else v) := rfl
  generalize hp : s.withLaneAs l { s.lanes[l] with pins := { s.lanes[l].pins with pfl := true } } = p at hexec
  have hlane : p.lanes[l] = { s.lanes[l] with pins := { s.lanes[l].pins with pfl := true } } := by
    rw [← hp, State.withLaneAs_lanes_self]
  have hpheld : p.held = false := by rw [← hp]; exact hs
  have hpowered : (p.view l).ln.powered = s.lanes[l].powered := by rw [State.view_ln, hlane]; rfl
  refine ⟨fun hoff => ?_, fun hon => ?_, rfl⟩
  · rw [hexec, State.laneEvent_heard _ l _ hpheld, State.onLane_same]
    exact if_neg (by rw [hpowered, hoff]; exact Bool.false_ne_true)
  · have htrip : (if (p.view l).ln.powered then (p.view l).trip else p.view l) = (p.view l).trip :=
      if_pos (hpowered.trans hon)
    have hput : exec (.pflAssert l) s = .next (p.put l (p.view l).trip) := by
      rw [hexec, State.laneEvent_heard _ l _ hpheld, ← htrip]
      rfl
    have hprogress : (p.view l).ln.leavingProgress = s.lanes[l].power.progress := by
      rw [Lane.leavingProgress_powered (hpowered.trans hon), State.view_ln, hlane]
    obtain ⟨hfree, halarms⟩ := ((p.view l).alarm .powerTrip).leaveFor_quiet .tripped
    have hleft : State.LaneLeft { p with attn := true } (p.put l (p.view l).trip) l .tripped
        (p.view l).ln.leavingProgress :=
      State.laneLeft (v := (p.view l).alarm .powerTrip) (.inr rfl) rfl rfl rfl rfl (p.put_lanes_self l _) rfl
    rw [hprogress] at hleft
    refine ⟨_, _, rfl, hput, ?_⟩
    refine ⟨(p.put_frame l _).withAttn true, hleft, hfree.trans ?_, halarms.trans ?_, LaneView.leaveFor_attn rfl⟩
    · rw [← hp]
      rfl
    · rw [← hp]
      rfl

end Sys2Proof.Machine
end

section
/-!
PROOFS. The settle expiry (chapter 1): a milestone passed, and the whole entry into ON.
-/

namespace Sys2Proof.Machine

/-! ### Milestones (R4) -/

theorem nextMilestone_of_val {p : Option Milestone} {m : Milestone}
    (h : m.val = match p with | none => 0 | some k => k.val + 1) : nextMilestone p = some m := by
  cases p with
  | none => exact congrArg some (Fin.ext h.symm)
  | some k =>
    have hk : k.val + 1 < 8 := by
      have hm : m.val = k.val + 1 := h
      omega
    rw [nextMilestone, dif_pos hk]
    exact congrArg some (Fin.ext h.symm)

/-- The point of the milestone after each one, none after milestone 7. -/
theorem nextPoint_eq (start : Time) (m : Milestone) :
    (nextMilestone (some m)).map (milestonePoint start) =
      match m.val with
      | 0 => some (start + 10)
      | 1 => some (start + 20)
      | 2 => some (start + 50)
      | 3 => some (start + 100)
      | 4 => some (start + 200)
      | 5 => some (start + 500)
      | 6 => some (start + 1000)
      | _ => none := by
  fin_cases m <;> rfl

/-- The view with a milestone passed (R4). -/
def LaneView.passed (v : LaneView) (start : Time) (m : Milestone) : LaneView :=
  v.setPower { v.ln.power with progress := some m, timer := (nextMilestone (some m)).map (milestonePoint start) }

theorem LaneView.settleExpiry_eq {v : LaneView} {start : Time} {m : Milestone} (hp : v.ln.powered = true)
    (hexp : expired v.now v.ln.power.timer = true) (hstart : v.ln.power.start = some start)
    (hm : m.val = match v.ln.power.progress with | none => 0 | some k => k.val + 1) :
    v.settleExpiry =
      if v.ln.power.state = .settling ∧ m = v.ln.cfg.settle then (v.passed start m).enterOn else v.passed start m := by
  unfold LaneView.settleExpiry LaneView.passMilestone LaneView.passed
  simp only [hp, hexp, Bool.and_self, reduceIte, hstart, nextMilestone_of_val hm]

/-! ### Entering ON (R5) -/

/-- A state of an owner that the monitor holds already is no change (R134). -/
theorem LaneView.handOver_owned {v : LaneView} {c : Condition} {live : Bool} (h : v.ln.liveOf c = live)
    (ho : v.ln.ownerState c = live) : v.handOver c (v.ln.ownerState c) = v :=
  v.handOver_same c _ (.inr (h.trans ho.symm))

/-- An offer or a live state handed over leaves the owners of the conditions other than SCANNER_HELD as they were. -/
theorem LaneView.handOver_owner (v : LaneView) (c : Condition) (live : Bool) {k : Condition} (hk : k ≠ .scannerHeld) :
    (v.handOver c live).ln.ownerState k = v.ln.ownerState k := by
  obtain h | h := v.handOver_frame c live
  · rw [h]
  · have hln := h.ln
    cases k with
    | scannerAbsent => exact congrArg BreakDetector.absent hln.brk
    | scannerHeld => exact absurd rfl hk
    | ghost => exact congrArg KeyScanner.ghost hln.keys
    | rollover => exact congrArg KeyScanner.rollover hln.keys
    | keylockFault => exact congrArg KeyScanner.keylockFault hln.keys
    | drawerLong => exact congrArg (fun d : Drawer => decide (d.state = .openLong)) hln.drawer
    | driverFault => exact congrArg Drawer.fault hln.drawer
    | counterFull => exact congrArg Counters.full hln.counters

/-- Of a lane whose blocks have just started, the monitor takes over SCANNER_HELD and COUNTER_FULL alone (R134). -/
theorem LaneView.evaluateConditions_started {v : LaneView} (hlive : ∀ c, v.ln.liveOf c = false)
    (howner : ∀ c, c ≠ .scannerHeld → c ≠ .counterFull → v.ln.ownerState c = false) :
    v.evaluateConditions =
      (v.handOver .scannerHeld v.ln.port.reasons.flow).handOver .counterFull v.ln.counters.full := by
  have hlive' (c : Condition) (hc : c ≠ .scannerHeld) :
      (v.handOver .scannerHeld v.ln.port.reasons.flow).ln.liveOf c = false := by
    rw [LaneView.handOver_others _ _ _ hc hc, hlive]
  have howner' (c : Condition) (hc : c ≠ .scannerHeld) (hf : c ≠ .counterFull) :
      (v.handOver .scannerHeld v.ln.port.reasons.flow).ln.ownerState c = false := by
    rw [LaneView.handOver_owner _ _ _ hc, howner c hc hf]
  have hfull : (v.handOver .scannerHeld v.ln.port.reasons.flow).ln.ownerState .counterFull = v.ln.counters.full :=
    v.handOver_owner _ _ (by decide)
  unfold LaneView.evaluateConditions Condition.all
  simp only [List.foldl_cons, List.foldl_nil]
  rw [LaneView.handOver_owned (hlive .scannerAbsent) (howner .scannerAbsent (by decide) (by decide))]
  rw [show v.ln.ownerState .scannerHeld = v.ln.port.reasons.flow from rfl,
    LaneView.handOver_owned (hlive' .ghost (by decide)) (howner' .ghost (by decide) (by decide)),
    LaneView.handOver_owned (hlive' .rollover (by decide)) (howner' .rollover (by decide) (by decide)),
    LaneView.handOver_owned (hlive' .keylockFault (by decide)) (howner' .keylockFault (by decide) (by decide)),
    LaneView.handOver_owned (hlive' .drawerLong (by decide)) (howner' .drawerLong (by decide) (by decide)),
    LaneView.handOver_owned (hlive' .driverFault (by decide)) (howner' .driverFault (by decide) (by decide)), hfull]

/-- A full queue takes no CONDITION record. -/
theorem LaneView.handOver_full {v : LaneView} (h : 32 ≤ v.ln.count) (c : Condition) (live : Bool) :
    (v.handOver c live).attn = v.attn ∧ 32 ≤ (v.handOver c live).ln.count := by
  obtain hc | hc | hc := v.handOver_cases c live <;> rw [hc]
  · exact ⟨rfl, h⟩
  · exact ⟨rfl, h⟩
  · have ht : (v.setLive c live).takes (.condition c live) = false := by
      rw [LaneView.takes_classB _ _ rfl]
      exact decide_eq_false (Nat.not_lt.mpr h)
    rw [LaneView.offer_refusedB _ _ ht rfl]
    exact ⟨rfl, h⟩

/-- The lane right after its LANE ON record, FLOW evaluated and its blocks started. -/
def LaneView.startedOn (v : LaneView) : LaneView := (v.offer (.lane .on v.ln.power.progress)).startBlocks

theorem LaneView.enterOn_eq (v : LaneView) :
    v.enterOn =
      if v.startedOn.evaluateConditions.ln.set.counterMode = .auto then v.startedOn.evaluateConditions.startReport
      else v.startedOn.evaluateConditions := by
  unfold LaneView.enterOn LaneView.startedOn
  dsimp only

/-- FLOW as the LANE ON record leaves it (R103). -/
def Lane.flowAfterOn (d : Lane) : Bool :=
  if 32 ≤ d.count then d.port.reasons.flow
  else if d.set.high ≤ d.count + 1 ∨ d.set.quota ≤ d.queue.held then true
  else if d.count + 1 ≤ d.set.low ∧ d.queue.held + 2 ≤ d.set.quota then false
  else d.port.reasons.flow

/-- The scanner port that starts on a lane at its reset values: the command of the FLOW that stands heads an empty queue
(R5 step 3, R56). -/
theorem Lane.startedPort_reset {d : Lane}
    (h : d.port = { ScannerPort.reset with reasons := { Reasons.empty with flow := d.port.reasons.flow } }) (now : Time) :
    d.startedPort now =
      { rx := Receiver.reset
        brk := { absent := false, held := some { level := d.pins.srx, since := now }, timer := some (now + 100) }
        cmds := [.enable (if d.port.reasons.flow then .disabled else .enabled)]
        lineState := some (if d.port.reasons.flow then .disabled else .enabled)
        reasons := { host := false, flow := d.port.reasons.flow, drawer := false, check := false } } := by
  generalize d.port.reasons.flow = flow at h
  rw [Lane.startedPort, h]
  cases flow <;> rfl

/-- The lane with its blocks just started, FLOW being `flow` and its LANE ON record taken or lost (R5, Log 10). -/
def Lane.started (d : Lane) (l : LaneId) (now : Time) (flow : Bool) : Lane :=
  { d with
    queue := if d.count < 32 then (d.taking l now (.lane .on d.power.progress)).queue else d.losing.queue
    power := { d.power with state := .on }
    keys := { KeyScanner.reset with nextSample := some (after now d.cfg.period) }
    port :=
      { rx := Receiver.reset
        brk := { absent := false, held := some { level := d.pins.srx, since := now }, timer := some (now + 100) }
        cmds := [.enable (if flow then .disabled else .enabled)]
        lineState := some (if flow then .disabled else .enabled)
        reasons := { host := false, flow := flow, drawer := false, check := false } }
    drawer := { d.drawer with stability := some { point := now + 20, level := d.pins.dsn } } }

/-- The lane after its LANE ON record, taken or lost (R91, R95, R103). -/
theorem LaneView.offerOn_ln {v : LaneView} (hoff : v.ln.on = false) :
    (v.offer (.lane .on v.ln.power.progress)).ln =
      { v.ln with
        queue := if v.ln.count < 32 then (v.ln.taking v.id v.now (.lane .on v.ln.power.progress)).queue
          else v.ln.losing.queue
        port := { v.ln.port with reasons := { v.ln.port.reasons with flow := v.ln.flowAfterOn } } } := by
  have htakes := v.takes_classB (.lane .on v.ln.power.progress) rfl
  by_cases hroom : v.ln.count < 32
  · rw [decide_eq_true hroom] at htakes
    have hflow : (v.enqueue (.lane .on v.ln.power.progress)).ln.flowOf = v.ln.flowAfterOn := by
      rw [Lane.flowAfterOn, if_neg (Nat.not_le.mpr hroom), Lane.flowOf]
      simp only [LaneView.enqueue, LaneView.setQueue_ln_set, LaneView.setQueue_ln_queue, LaneView.setQueue_ln_port,
        List.length_append, List.length_singleton, RecordBody.slots, Nat.add_zero, Lane.count]
      rfl
    rw [LaneView.offer_off hoff htakes, hflow, if_pos hroom]
    rfl
  · rw [decide_eq_false hroom] at htakes
    have hflow : v.ln.flowAfterOn = v.ln.port.reasons.flow := if_pos (Nat.not_lt.mp hroom)
    rw [v.offer_refusedB _ htakes rfl, hflow, if_neg hroom]
    rfl

/-- The lane as its blocks start, after its LANE ON record. -/
theorem LaneView.startedOn_ln {v : LaneView} (hoff : v.ln.on = false) (hat : v.ln.AtLocalReset) :
    v.startedOn.ln = v.ln.started v.id v.now v.ln.flowAfterOn := by
  obtain ⟨-, hport, -, hdrawer, -, -, -⟩ := hat
  have hf := v.offer_frame (.lane .on v.ln.power.progress)
  have hln := LaneView.offerOn_ln hoff
  have hstart : v.startedOn.ln =
      { (v.offer (.lane .on v.ln.power.progress)).ln with
        power := { (v.offer (.lane .on v.ln.power.progress)).ln.power with state := .on }
        keys := (v.offer (.lane .on v.ln.power.progress)).ln.startedKeys v.now
        port := (v.offer (.lane .on v.ln.power.progress)).ln.startedPort v.now
        drawer := (v.offer (.lane .on v.ln.power.progress)).ln.startedDrawer v.now } := by
    rw [← hf.now]
    rfl
  have hd (x : Lane) (hx : x.drawer = v.ln.drawer) (hp : x.pins = v.ln.pins) :
      x.startedDrawer v.now =
        { v.ln.drawer with stability := some { point := v.now + 20, level := v.ln.pins.dsn } } := by
    rw [Lane.startedDrawer, hx, hp, hdrawer]
    rfl
  rw [hstart, hd _ hf.ln.drawer hf.ln.pins, hln, Lane.startedPort_reset (by dsimp only; rw [hport])]
  rfl

/-- What handing over a live state leaves outside the queue, FLOW and the live states. -/
theorem LaneView.handOver_rest (v : LaneView) (c : Condition) (live : Bool) :
    (v.handOver c live).id = v.id ∧ (v.handOver c live).now = v.now ∧ (v.handOver c live).ln.set = v.ln.set ∧
      (v.handOver c live).ln.reportTimer = v.ln.reportTimer ∧
      (v.handOver c live).ln.counters = v.ln.counters := by
  obtain h | h := v.handOver_frame c live
  · rw [h]
    exact ⟨rfl, rfl, rfl, rfl, rfl⟩
  · exact ⟨h.id, h.now, h.ln.set, h.ln.reportTimer, h.ln.counters⟩

/-- Everything the entry into ON does to a lane at its reset values (R5, R134, R142). -/
theorem LaneView.enterOn_enters {v : LaneView} (hoff : v.ln.on = false) (hat : v.ln.AtLocalReset) :
    ∃ held evaluated : Lane,
      (v.ln.started v.id v.now v.ln.flowAfterOn).HandedOver held v.id v.now .scannerHeld v.ln.flowAfterOn ∧
        held.HandedOver evaluated v.id v.now .counterFull v.ln.counters.full ∧
        v.enterOn.ln =
          { evaluated with
            reportTimer :=
              if v.ln.set.counterMode = .auto then some (after v.now (v.ln.set.interval * 1000)) else none } ∧
        (∀ c : Condition, c ≠ .scannerHeld → c ≠ .counterFull → v.enterOn.ln.liveOf c = false) ∧
        v.enterOn.free = v.free ∧ v.enterOn.alarms = v.alarms ∧
        v.enterOn.attn = (v.attn || decide (v.ln.count < 32)) := by
  have hln := LaneView.startedOn_ln hoff hat
  obtain ⟨-, -, -, hdrawer, hlive, hreport, -⟩ := hat
  have hof := v.offer_frame (.lane .on v.ln.power.progress)
  obtain ⟨hofree, hoalarms⟩ := v.offer_quiet (.lane .on v.ln.power.progress) rfl
  generalize hw : v.startedOn = w at hln
  have hwid : w.id = v.id := by rw [← hw]; exact hof.id
  have hwnow : w.now = v.now := by rw [← hw]; exact hof.now
  have hwfree : w.free = v.free := by rw [← hw]; exact hofree
  have hwalarms : w.alarms = v.alarms := by rw [← hw]; exact hoalarms
  have hwattn : w.attn = (v.offer (.lane .on v.ln.power.progress)).attn := by rw [← hw]; rfl
  have hwlive (c : Condition) : w.ln.liveOf c = false := by
    have hl : w.ln.live = Vector.replicate 8 false := by rw [hln]; exact hlive
    rw [Lane.liveOf, hl]
    exact Vector.getElem_replicate _
  have howner (c : Condition) (hc : c ≠ .scannerHeld) (hfull : c ≠ .counterFull) : w.ln.ownerState c = false := by
    rw [hln]
    cases c with
    | scannerHeld => exact absurd rfl hc
    | counterFull => exact absurd rfl hfull
    | drawerLong =>
      show decide (v.ln.drawer.state = .openLong) = false
      rw [hdrawer]
      rfl
    | driverFault =>
      show v.ln.drawer.fault = false
      rw [hdrawer]
      rfl
    | _ => rfl
  have heval := LaneView.evaluateConditions_started hwlive howner
  have hcounters : w.ln.counters = v.ln.counters := by rw [hln]; rfl
  have hflow : w.ln.port.reasons.flow = v.ln.flowAfterOn := by rw [hln]; rfl
  rw [hcounters, hflow] at heval
  have hset : w.ln.set = v.ln.set := by rw [hln]; rfl
  have htimer : w.ln.reportTimer = none := by rw [hln]; exact hreport
  obtain ⟨hid, hnow, hhset, hhreport, -⟩ := w.handOver_rest .scannerHeld v.ln.flowAfterOn
  obtain ⟨heid, henow, heset, hereport, -⟩ :=
    (w.handOver .scannerHeld v.ln.flowAfterOn).handOver_rest .counterFull v.ln.counters.full
  obtain ⟨hhfree, hhalarms⟩ := w.handOver_quiet .scannerHeld v.ln.flowAfterOn
  obtain ⟨hefree, healarms⟩ :=
    (w.handOver .scannerHeld v.ln.flowAfterOn).handOver_quiet .counterFull v.ln.counters.full
  have hheld := w.handOver_handedOver .scannerHeld v.ln.flowAfterOn
  have hevaluated :=
    (w.handOver .scannerHeld v.ln.flowAfterOn).handOver_handedOver .counterFull v.ln.counters.full
  have hothers (c : Condition) (hc : c ≠ .scannerHeld) (hfull : c ≠ .counterFull) :
      ((w.handOver .scannerHeld v.ln.flowAfterOn).handOver .counterFull v.ln.counters.full).ln.liveOf c = false := by
    rw [LaneView.handOver_others _ _ _ hfull hc, LaneView.handOver_others _ _ _ hc hc, hwlive]
  have hattn : ((w.handOver .scannerHeld v.ln.flowAfterOn).handOver .counterFull v.ln.counters.full).attn =
      (v.attn || decide (v.ln.count < 32)) := by
    have htakes := v.takes_classB (.lane .on v.ln.power.progress) rfl
    by_cases hroom : v.ln.count < 32
    · rw [decide_eq_true hroom] at htakes ⊢
      obtain ⟨-, hoattn, -⟩ := v.offer_taken _ htakes
      rw [Bool.or_true]
      exact LaneView.handOver_attn (LaneView.handOver_attn (hwattn.trans hoattn) _ _) _ _
    · rw [decide_eq_false hroom] at htakes ⊢
      have hcount : 32 ≤ w.ln.count := by
        rw [hln, Lane.count, Lane.started]
        dsimp only
        rw [if_neg hroom]
        exact Nat.not_lt.mp hroom
      obtain ⟨hha, hhc⟩ := LaneView.handOver_full hcount .scannerHeld v.ln.flowAfterOn
      obtain ⟨hea, -⟩ := LaneView.handOver_full hhc .counterFull v.ln.counters.full
      rw [hea, hha, hwattn, v.offer_refusedB _ htakes rfl, Bool.or_false]
      rfl
  rw [hid, hnow, hwid, hwnow] at hevaluated
  rw [hwid, hwnow, hln] at hheld
  refine ⟨_, _, hheld, hevaluated, ?_⟩
  have henter : v.enterOn =
      if v.ln.set.counterMode = .auto then
        ((w.handOver .scannerHeld v.ln.flowAfterOn).handOver .counterFull v.ln.counters.full).startReport
      else (w.handOver .scannerHeld v.ln.flowAfterOn).handOver .counterFull v.ln.counters.full := by
    rw [LaneView.enterOn_eq, hw, heval, heset, hhset, hset]
  rw [henter]
  generalize (w.handOver .scannerHeld v.ln.flowAfterOn).handOver .counterFull v.ln.counters.full = e at *
  have hsetE : e.ln.set = v.ln.set := heset.trans (hhset.trans hset)
  have hnowE : e.now = v.now := henow.trans (hnow.trans hwnow)
  have hreportE : e.ln.reportTimer = none := hereport.trans (hhreport.trans htimer)
  have hfreeE : e.free = v.free := hefree.trans (hhfree.trans hwfree)
  have halarmsE : e.alarms = v.alarms := healarms.trans (hhalarms.trans hwalarms)
  split
  · refine ⟨?_, hothers, hfreeE, halarmsE, hattn⟩
    rw [← hsetE, ← hnowE]
    rfl
  · refine ⟨?_, hothers, hfreeE, halarmsE, hattn⟩
    rw [← hreportE]

/-- Settles O14: a milestone short of the requirement, then the entry into ON. -/
theorem settleExpiryPassesAMilestoneOrEntersOn : Obligations.SettleExpiryPassesAMilestoneOrEntersOn := by
  unfold Obligations.SettleExpiryPassesAMilestoneOrEntersOn
  refine ⟨fun s l start m hs hp hexp hstart hm hne => ?_,
    fun s l start hs hstate hexp hstart hm hat _ => ?_⟩
  · have hexpiry := LaneView.settleExpiry_eq (v := s.view l) hp hexp hstart hm
    rw [if_neg fun h => hne h.1 h.2] at hexpiry
    exact (State.heard_alone (f := LaneView.settleExpiry) hs rfl hexpiry).trans
      (congrArg (fun timer => Host.Outcome.next (s.withLaneAs l
        { s.lanes[l] with power := { s.lanes[l].power with progress := some m, timer := timer } })) (nextPoint_eq start m))
  · have hp : s.lanes[l].powered = true := by simp only [Lane.powered, hstate]; rfl
    have hexpiry := LaneView.settleExpiry_eq (v := s.view l) hp hexp hstart hm
    rw [if_pos ⟨hstate, rfl⟩] at hexpiry
    have hoff : ((s.view l).passed start s.lanes[l].cfg.settle).ln.on = false := by
      show decide (s.lanes[l].power.state = .on) = false
      rw [hstate]
      rfl
    obtain ⟨held, evaluated, hheld, hevaluated, hln, hothers, hfree, halarms, hattn⟩ :=
      LaneView.enterOn_enters (v := (s.view l).passed start s.lanes[l].cfg.settle) hoff hat
    refine ⟨_, ((s.view l).passed start s.lanes[l].cfg.settle).ln.started l s.timeBase s.lanes[l].flowAfterOn, held,
      evaluated, s.lanes[l].flowAfterOn, State.heard (f := LaneView.settleExpiry) hs rfl, ?_⟩
    rw [hexpiry]
    refine ⟨State.put_quiet ⟨hfree, halarms⟩, ?_, ?_, ?_, ?_, ?_, ?_, fun c hc hfull => ?_⟩
    · rw [State.put_attn, hattn]
      rfl
    · unfold Lane.flowAfterOn
      rfl
    · unfold Lane.started
      rfl
    · exact hheld
    · exact hevaluated
    · rw [State.put_lanes_self]
      exact hln
    · rw [State.put_lanes_self]
      exact hothers c hc hfull

end Sys2Proof.Machine
end

section
/-!
PROOFS. LANECFG (R185): settings as bytes, and when a stored field differs from the one sent (R180).
-/

namespace Sys2Proof.Machine

/-! ### Settings as the fields that would store them (R190) -/

theorem bitVec_ofNat_eq_iff {w n : Nat} (h : n < 2 ^ w) (b : BitVec w) : BitVec.ofNat w n = b ↔ n = b.toNat := by
  rw [← BitVec.toNat_inj, BitVec.toNat_ofNat, Nat.mod_eq_of_lt h]

/-- The fields of a LANECFG that carry the settings. -/
def LaneCfg.fields (c : LaneCfg) : LaneCfgFields :=
  { settle := byteOf c.settle.val
    rows := byteOf c.rows
    cols := byteOf c.cols
    period := byteOf c.period
    debounce := byteOf c.debounce
    typDelay := BitVec.ofNat 16 c.typDelay
    typPeriod := BitVec.ofNat 16 c.typPeriod
    releaseKey := optByte (c.releaseKey.map fun k => byteOf k.val)
    rate := BitVec.ofNat 32 c.rate
    gap := byteOf c.gap
    pulse := byteOf c.pulse
    confirm := BitVec.ofNat 16 c.confirm }

/-- The bytes of the settings are those of the fields that carry them, and no others'. -/
theorem LaneCfg.bytes_eq_iff (c : LaneCfg) (f : LaneCfgFields) :
    c.bytes =
        [f.settle, f.rows, f.cols, f.period, f.debounce] ++ bytes16 f.typDelay ++ bytes16 f.typPeriod ++
          [f.releaseKey] ++ bytes32 f.rate ++ [f.gap, f.pulse] ++ bytes16 f.confirm ↔
      c.fields = f := by
  constructor
  · intro h
    rw [← laneCfgFieldsOf_bytes 0 0 c.fields, ← laneCfgFieldsOf_bytes 0 0 f]
    exact congrArg (fun p => laneCfgFieldsOf (0 :: 0 :: p)) h
  · rintro rfl
    rfl

/-- The release key a listed byte stores is sent back as that byte (R21). -/
theorem optByte_releaseKeyOf {b : Byte} (h : b.toNat < 128 ∨ b = 0xFF) :
    optByte ((releaseKeyOf b).map fun k => byteOf k.val) = b := by
  unfold releaseKeyOf
  obtain h | rfl := h
  · rw [dif_pos h]
    exact byteOf_toNat b
  · rfl

/-- Settings within their ranges are carried by the fields with their values. -/
theorem LaneCfg.fields_eq_iff {c : LaneCfg} (h : c.InRange) (f : LaneCfgFields) :
    c.fields = f ↔
      c.settle.val = f.settle.toNat ∧ c.rows = f.rows.toNat ∧ c.cols = f.cols.toNat ∧ c.period = f.period.toNat ∧
        c.debounce = f.debounce.toNat ∧ c.typDelay = f.typDelay.toNat ∧ c.typPeriod = f.typPeriod.toNat ∧
        optByte (c.releaseKey.map fun k => byteOf k.val) = f.releaseKey ∧ c.rate = f.rate.toNat ∧
        c.gap = f.gap.toNat ∧ c.pulse = f.pulse.toNat ∧ c.confirm = f.confirm.toNat := by
  obtain ⟨-, hrows, -, hcols, -, hperiod, -, hdebounce, -, hdelay, -, htyp, hrate, -, hgap, -, hpulse, -, hconfirm⟩ := h
  have hsettle := c.settle.isLt
  cases f
  simp only [LaneCfg.fields, LaneCfgFields.mk.injEq, byteOf]
  rw [bitVec_ofNat_eq_iff (by omega), bitVec_ofNat_eq_iff (by omega), bitVec_ofNat_eq_iff (by omega),
    bitVec_ofNat_eq_iff (by omega), bitVec_ofNat_eq_iff (by omega), bitVec_ofNat_eq_iff (by omega),
    bitVec_ofNat_eq_iff (by omega), bitVec_ofNat_eq_iff (by omega), bitVec_ofNat_eq_iff (by omega),
    bitVec_ofNat_eq_iff (by omega), bitVec_ofNat_eq_iff (by omega)]

/-- Fields from a list are stored as sent exactly when no number is clamped (R180). -/
theorem LaneCfgFields.store_fields_iff {f : LaneCfgFields} (h : f.releaseKey.toNat < 128 ∨ f.releaseKey = 0xFF) :
    f.store.fields = f ↔ f.clamps = false := by
  have hkey : optByte (f.store.releaseKey.map fun k => byteOf k.val) = f.releaseKey := optByte_releaseKeyOf h
  rw [LaneCfg.fields_eq_iff (laneCfg_store_inRange f), LaneCfgFields.clamps]
  simp only [hkey, true_and, Bool.or_eq_false_iff, decide_eq_false_iff_not, not_not, and_assoc]

theorem LaneCfgFields.doneOrClamped_eq {f : LaneCfgFields} (h : f.releaseKey.toNat < 128 ∨ f.releaseKey = 0xFF) :
    doneOrClamped f.clamps =
      if f.store.bytes =
          [f.settle, f.rows, f.cols, f.period, f.debounce] ++ bytes16 f.typDelay ++ bytes16 f.typPeriod ++
            [f.releaseKey] ++ bytes32 f.rate ++ [f.gap, f.pulse] ++ bytes16 f.confirm
        then .done else .clamped := by
  simp only [LaneCfg.bytes_eq_iff, store_fields_iff h, doneOrClamped, Bool.eq_false_iff, ite_not]

theorem LaneCfgFields.listed_iff (f : LaneCfgFields) :
    f.listed = true ↔ f.releaseKey.toNat < 128 ∨ f.releaseKey = 0xFF := by
  rw [LaneCfgFields.listed, Bool.or_eq_true, decide_eq_true_iff, beq_iff_eq]

theorem clampMilestone_val (n : Nat) : (clampMilestone n).val = clamp 0 7 n := by
  unfold clamp
  rw [if_neg (Nat.not_lt_zero n)]
  show min n 7 = _
  split <;> omega

/-- The release key a listed byte names (R21). -/
theorem releaseKeyOf_val {b : Byte} (h : b.toNat < 128 ∨ b = 0xFF) :
    (releaseKeyOf b).map Fin.val = if b = 0xFF then none else some b.toNat := by
  unfold releaseKeyOf
  by_cases hff : b = 0xFF
  · subst hff
    rfl
  · have hlt := h.resolve_right hff
    rw [dif_pos hlt, if_neg hff]
    rfl

/-- The layout of the settings as the LANECFG payload gives it. -/
theorem LaneCfg.bytes_layout (c : LaneCfg) :
    c.bytes =
      [byteOf c.settle.val, byteOf c.rows, byteOf c.cols, byteOf c.period, byteOf c.debounce] ++
        bytes16n c.typDelay ++ bytes16n c.typPeriod ++
        [match c.releaseKey with | some k => byteOf k.val | none => 0xFF] ++ bytes32n c.rate ++
        [byteOf c.gap, byteOf c.pulse] ++ bytes16n c.confirm := by
  unfold LaneCfg.bytes
  cases c.releaseKey <;> rfl

/-- A LANECFG of a lane that is not powered, with write 1 and fields from their lists. -/
theorem LaneView.serveLaneCfg_stores {v : LaneView} (hp : v.ln.powered = false) {f : LaneCfgFields}
    (h : f.listed = true) :
    Machine.whenInactive v (v.serveLaneCfg 1 f) =
      (v.setCfg f.store, { code := doneOrClamped f.clamps, body := f.store.bytes }) := by
  rw [whenInactive_unpowered v _ hp]
  exact if_pos h

theorem LaneView.serveLaneCfg_unlisted {v : LaneView} (hp : v.ln.powered = false) {f : LaneCfgFields}
    (h : f.listed = false) : Machine.whenInactive v (v.serveLaneCfg 1 f) = (v, .only .badField) := by
  rw [whenInactive_unpowered v _ hp]
  exact if_neg (Bool.eq_false_iff.mp h)

/-- Settles O9: the powered lane, the read, the refused release key, and the write. -/
theorem laneCfgStoresTheStaticSettings : Obligations.LaneCfgStoresTheStaticSettings := by
  unfold Obligations.LaneCfgStoresTheStaticSettings
  intro s tag lane f l hs hl
  refine ⟨fun hp => ⟨?writeActive, ?readActive⟩, fun hp => ⟨?read, fun h128 hff => ?unlisted, fun h => ?write⟩⟩
  case writeActive =>
    exact congrArg Host.Outcome.next
      (s.request_lane_same .laneCfg tag hs (s.serve_laneCfg lane 1 f) rfl hl (whenInactive_powered _ _ hp))
  case readActive =>
    exact congrArg Host.Outcome.next
      (s.request_lane_same .laneCfg tag hs (s.serve_laneCfg lane 0 unexaminedCfg) rfl hl (whenInactive_powered _ _ hp))
  case read =>
    exact congrArg Host.Outcome.next
      (s.request_lane_same .laneCfg tag hs (s.serve_laneCfg lane 0 unexaminedCfg) rfl hl (whenInactive_unpowered _ _ hp))
  case unlisted =>
    have hlisted : f.listed = false := by
      rw [Bool.eq_false_iff, Ne, LaneCfgFields.listed_iff]
      exact not_or.mpr ⟨Nat.not_lt.mpr h128, hff⟩
    exact congrArg Host.Outcome.next
      (s.request_lane_same .laneCfg tag hs (s.serve_laneCfg lane 1 f) rfl hl
        (LaneView.serveLaneCfg_unlisted hp hlisted))
  case write =>
    refine ⟨f.store, ?_, clampMilestone_val _, rfl, rfl, rfl, rfl, rfl, rfl, releaseKeyOf_val h, rfl, rfl, rfl, rfl,
      LaneCfg.bytes_layout _⟩
    rw [← LaneCfgFields.doneOrClamped_eq h]
    exact congrArg Host.Outcome.next
      (State.request_answers .laneCfg hs (s.serve_laneCfg lane 1 f) rfl hl
        (LaneView.serveLaneCfg_stores hp ((LaneCfgFields.listed_iff f).mpr h)))

end Sys2Proof.Machine
end

section
/-!
PROOFS. LANESET (R186, R187): settings as bytes, what a stored field is, and what the write does to its lane.
-/

namespace Sys2Proof.Machine

/-! ### Settings as the fields that would store them (R190) -/

/-- The fields of a LANESET that carry the settings. -/
def LaneSet.fields (c : LaneSet) : LaneSetFields :=
  { confirmTones := bitByte c.confirmTones
    inhibitOpen := bitByte c.inhibitOpen
    strict := bitByte c.strict
    valueLimit := BitVec.ofNat 32 c.valueLimit
    dupWindow := BitVec.ofNat 16 c.dupWindow
    quota := byteOf c.quota
    high := byteOf c.high
    low := byteOf c.low
    openLong := BitVec.ofNat 16 c.openLong
    hostMask := c.hostMask.setWidth 8
    keyMask := c.keyMask.setWidth 8
    consume := c.consume.setWidth 8
    modes := c.modes.map ReportMode.byte
    counterMode := c.counterMode.byte
    interval := byteOf c.interval
    priority := byteOf c.priority.val }

/-- The bytes of a LANESET from confirm tones on (R190). -/
def sentSet (f : LaneSetFields) : List Byte :=
  [f.confirmTones, f.inhibitOpen, f.strict] ++ bytes32 f.valueLimit ++ bytes16 f.dupWindow ++
    [f.quota, f.high, f.low] ++ bytes16 f.openLong ++ [f.hostMask, f.keyMask, f.consume] ++
    f.modes.toList ++ [f.counterMode, f.interval, f.priority]

theorem LaneSet.bytes_eq (c : LaneSet) : c.bytes = sentSet c.fields := by
  rw [LaneSet.bytes, sentSet, show c.fields.modes.toList = c.modes.toList.map ReportMode.byte from
    Vector.toList_map]
  rfl

theorem sentSet_inj {f g : LaneSetFields} : sentSet f = sentSet g ↔ f = g := by
  constructor
  · intro h
    rw [← laneSetFieldsOf_bytes 0 0 f, ← laneSetFieldsOf_bytes 0 0 g]
    exact congrArg (fun p => laneSetFieldsOf (0 :: 0 :: p)) h
  · exact congrArg sentSet

/-- What makes every field of a LANESET that has a list hold a value of it. -/
theorem LaneSetFields.listed_iff (f : LaneSetFields) :
    f.listed = true ↔
      f.confirmTones.toNat ≤ 1 ∧ f.inhibitOpen.toNat ≤ 1 ∧ f.strict.toNat ≤ 1 ∧ f.hostMask.toNat < 128 ∧
        f.keyMask.toNat < 128 ∧ f.consume.toNat < 16 ∧ (∀ i : Fin 8, f.modes[i].toNat ≤ 2) ∧
        f.counterMode.toNat ≤ 1 := by
  have hmodes : f.modes.toList.all (fun m => decide (m.toNat ≤ 2)) = true ↔ ∀ i : Fin 8, f.modes[i].toNat ≤ 2 := by
    rw [List.all_eq_true]
    constructor
    · intro h i
      exact of_decide_eq_true (h _ (Vector.mem_toList_iff.mpr (Vector.getElem_mem i.isLt)))
    · intro h m hm
      obtain ⟨i, hi, rfl⟩ := Vector.getElem_of_mem (Vector.mem_toList_iff.mp hm)
      exact decide_eq_true (h ⟨i, hi⟩)
  simp only [LaneSetFields.listed, isChoice, Bool.and_eq_true, decide_eq_true_eq, hmodes, and_assoc]

theorem ReportMode.byte_ofByte {b : Byte} (h : b.toNat ≤ 2) : (ReportMode.ofByte b).byte = b := by
  have hb : b.toNat = 0 ∨ b.toNat = 1 ∨ b.toNat = 2 := by omega
  unfold ReportMode.ofByte
  obtain hb | hb | hb := hb <;> rw [hb] <;> exact BitVec.eq_of_toNat_eq hb.symm

/-- The report mode a listed byte names (R131). -/
theorem ReportMode.ofByte_eq {b : Byte} (h : b.toNat ≤ 2) :
    ReportMode.ofByte b = if b = 0 then .off else if b = 1 then .rise else .both := by
  have hb : b = 0 ∨ b = 1 ∨ b = 2 := by
    obtain hb | hb | hb : b.toNat = 0 ∨ b.toNat = 1 ∨ b.toNat = 2 := by omega
    · exact .inl (BitVec.eq_of_toNat_eq hb)
    · exact .inr (.inl (BitVec.eq_of_toNat_eq hb))
    · exact .inr (.inr (BitVec.eq_of_toNat_eq hb))
  obtain rfl | rfl | rfl := hb <;> rfl

theorem counterMode_byte {b : Byte} (h : b.toNat ≤ 1) : (if b == 1 then CounterMode.auto else .manual).byte = b := by
  have hb := bitByte_beq_one h
  cases h1 : b == 1 <;> rw [h1] at hb <;> exact hb

theorem clampPriority_val (n : Nat) : (clampPriority n).val = clamp 0 3 n := by
  unfold clamp
  rw [if_neg (Nat.not_lt_zero n)]
  show min n 3 = _
  split <;> omega

theorem toNat_setWidth_of_lt {w : Nat} {b : Byte} (h : b.toNat < 2 ^ w) : (b.setWidth w).toNat = b.toNat := by
  rw [BitVec.toNat_setWidth, Nat.mod_eq_of_lt h]

theorem setWidth_setWidth_of_lt {w : Nat} {b : Byte} (hw : w ≤ 8) (h : b.toNat < 2 ^ w) :
    (b.setWidth w).setWidth 8 = b := by
  apply BitVec.eq_of_toNat_eq
  rw [BitVec.toNat_setWidth_of_le hw, toNat_setWidth_of_lt h]

section

variable {f : LaneSetFields} (h : f.listed = true)
include h

/-- Fields from their lists are stored as sent exactly when no number is clamped (R180). -/
theorem LaneSetFields.store_fields_iff : f.store.fields = f ↔ f.clamps = false := by
  obtain ⟨htones, hopen, hstrict, hhost, hkey, hconsume, hmodes, hcounter⟩ := (LaneSetFields.listed_iff f).mp h
  obtain ⟨hlimit, hwindow, -, -, hquota, -, hhigh, hlow, -, hopenLong, -, hinterval⟩ := laneSet_store_inRange f
  have hpriority := f.store.priority.isLt
  have hvector : f.store.modes.map ReportMode.byte = f.modes := by
    apply Vector.ext
    intro i hi
    rw [Vector.getElem_map]
    exact (congrArg ReportMode.byte (Vector.getElem_ofFn hi)).trans (ReportMode.byte_ofByte (hmodes ⟨i, hi⟩))
  have hbits : bitByte f.store.confirmTones = f.confirmTones ∧ bitByte f.store.inhibitOpen = f.inhibitOpen ∧
      bitByte f.store.strict = f.strict ∧ f.store.hostMask.setWidth 8 = f.hostMask ∧
      f.store.keyMask.setWidth 8 = f.keyMask ∧ f.store.consume.setWidth 8 = f.consume ∧
      f.store.counterMode.byte = f.counterMode :=
    ⟨bitByte_beq_one htones, bitByte_beq_one hopen, bitByte_beq_one hstrict, setWidth_setWidth_of_lt (by decide) hhost,
      setWidth_setWidth_of_lt (by decide) hkey, setWidth_setWidth_of_lt (by decide) hconsume, counterMode_byte hcounter⟩
  obtain ⟨b1, b2, b3, b4, b5, b6, b7⟩ := hbits
  unfold LaneSetFields.clamps
  generalize f.store = c at *
  cases f
  simp only [LaneSet.fields, LaneSetFields.mk.injEq, byteOf, b1, b2, b3, b4, b5, b6, b7, hvector, true_and,
    Bool.or_eq_false_iff, decide_eq_false_iff_not, not_not, and_assoc]
  rw [bitVec_ofNat_eq_iff (by omega), bitVec_ofNat_eq_iff (by omega), bitVec_ofNat_eq_iff (by omega),
    bitVec_ofNat_eq_iff (by omega), bitVec_ofNat_eq_iff (by omega), bitVec_ofNat_eq_iff (by omega),
    bitVec_ofNat_eq_iff (by omega), bitVec_ofNat_eq_iff (by omega)]

theorem LaneSetFields.doneOrClamped_eq :
    doneOrClamped f.clamps = if f.store.bytes = sentSet f then .done else .clamped := by
  simp only [LaneSet.bytes_eq, sentSet_inj, store_fields_iff h, doneOrClamped, Bool.eq_false_iff, ite_not]

end

/-! ### What the write does to its lane (R187) -/

theorem LaneView.windowStored_eq (v : LaneView) :
    v.windowStored = v.setFilter (if v.ln.set.dupWindow = 0 then DupFilter.cleared else v.ln.filter) := by
  unfold LaneView.windowStored
  split <;> rfl

theorem LaneView.modeStored_eq (v : LaneView) (old : LaneSet) :
    v.modeStored old =
      v.setReport
        (if v.ln.set.counterMode = old.counterMode then v.ln.reportTimer
        else if v.ln.set.counterMode = .manual then none
        else if v.ln.on then some (after v.now (v.ln.set.interval * 1000)) else v.ln.reportTimer) := by
  unfold LaneView.modeStored
  cases old.counterMode <;> cases v.ln.set.counterMode
  case manual.auto => cases v.ln.on <;> rfl
  all_goals rfl

/-- A change of the disable-reason set looks at the port, the lane state and the line check alone. -/
theorem Lane.Redirected.carry {d e x : Lane} {r : Reasons} (h : x.Redirected e r) (hport : x.port = d.port)
    (hon : x.on = d.on) (hchecking : x.checking = d.checking) : d.Redirected { d with port := e.port } r := by
  obtain ⟨hframe, hstill, hwithdrawn, happended⟩ := h
  rw [hport, hon, hchecking] at hstill hwithdrawn happended
  refine ⟨?_, hstill, hwithdrawn, happended⟩
  have hp := congrArg Lane.port hframe
  rw [hport] at hp
  exact congrArg (fun p => { d with port := p }) hp

/-- Step 2 of R187. -/
theorem LaneView.inhibitStored_redirected (v : LaneView) (old : LaneSet) :
    ∃ p, v.inhibitStored old = v.setPort p ∧
      v.ln.Redirected { v.ln with port := p }
        (if v.ln.set.inhibitOpen ≠ old.inhibitOpen ∧ (v.ln.drawer.state = .opened ∨ v.ln.drawer.state = .openLong)
          then { v.ln.port.reasons with drawer := v.ln.set.inhibitOpen } else v.ln.port.reasons) := by
  have hcond : (decide (v.ln.set.inhibitOpen ≠ old.inhibitOpen) && v.ln.drawerOpen) = true ↔
      v.ln.set.inhibitOpen ≠ old.inhibitOpen ∧ (v.ln.drawer.state = .opened ∨ v.ln.drawer.state = .openLong) := by
    simp only [Lane.drawerOpen, Bool.and_eq_true, Bool.or_eq_true, decide_eq_true_eq]
  unfold LaneView.inhibitStored
  by_cases h : v.ln.set.inhibitOpen ≠ old.inhibitOpen ∧ (v.ln.drawer.state = .opened ∨ v.ln.drawer.state = .openLong)
  · rw [if_pos (hcond.mpr h), if_pos h]
    obtain ⟨p, hp, -⟩ := v.setReasons_eq { v.ln.port.reasons with drawer := v.ln.set.inhibitOpen }
    have hred := v.setReasons_redirected { v.ln.port.reasons with drawer := v.ln.set.inhibitOpen }
    rw [hp] at hred
    exact ⟨p, hp, hred⟩
  · rw [if_neg (mt hcond.mp h), if_neg h]
    exact ⟨v.ln.port, rfl, .refl v.ln⟩

/-- The view with the settings `c` stored and the steps of R187 before FLOW carried out, the port having become `p`. -/
def LaneView.stored (v : LaneView) (c : LaneSet) (p : ScannerPort) : LaneView :=
  { v with
    ln :=
      { v.ln with
        port := p
        set := c
        filter := if c.dupWindow = 0 then DupFilter.cleared else v.ln.filter
        reportTimer :=
          if c.counterMode = v.ln.set.counterMode then v.ln.reportTimer
          else if c.counterMode = .manual then none
          else if v.ln.on then some (after v.now (c.interval * 1000)) else v.ln.reportTimer } }

theorem LaneView.storeSet_eq (v : LaneView) (c : LaneSet) :
    ∃ p,
      v.ln.Redirected { v.ln with port := p }
        (if c.inhibitOpen ≠ v.ln.set.inhibitOpen ∧ (v.ln.drawer.state = .opened ∨ v.ln.drawer.state = .openLong)
          then { v.ln.port.reasons with drawer := c.inhibitOpen } else v.ln.port.reasons) ∧
      v.storeSet c = (v.stored c p).evalFlow flowFuel := by
  obtain ⟨p, hp, hred⟩ := ((v.setSet c).windowStored).inhibitStored_redirected v.ln.set
  rw [LaneView.windowStored_eq] at hp hred
  refine ⟨p, hred.carry rfl rfl rfl, ?_⟩
  rw [LaneView.storeSet, LaneView.windowStored_eq, hp, LaneView.modeStored_eq]
  rfl

theorem Lane.FlowEvaluated.flow {d e : Lane} {l : LaneId} {now : Time} (h : d.FlowEvaluated e l now)
    (hr : d.set.InRange) : e.port.reasons.flow = d.flowOf := by
  obtain ⟨x, hx, hport⟩ := h.port hr
  rw [hport, hx.frame]

theorem LaneView.evalFlow_quiet (v : LaneView) :
    (v.evalFlow flowFuel).free = v.free ∧ (v.evalFlow flowFuel).alarms = v.alarms :=
  ⟨(LaneView.evalFlow_spec flowFuel v).2.1, (LaneView.evalFlow_spec flowFuel v).1.alarms⟩

/-- A LANESET with write 1 and fields from their lists. -/
theorem LaneView.serveLaneSet_stores (v : LaneView) {f : LaneSetFields} (h : f.listed = true) :
    v.serveLaneSet 1 f = (v.storeSet f.store, { code := doneOrClamped f.clamps, body := f.store.bytes }) :=
  if_pos h

theorem LaneView.serveLaneSet_unlisted (v : LaneView) {f : LaneSetFields} (h : ¬f.listed = true) :
    v.serveLaneSet 1 f = (v, .only .badField) :=
  if_neg h

theorem counterMode_of_beq_one (b : Byte) :
    (if b == 1 then CounterMode.auto else .manual) = if b = 1 then .auto else .manual := by
  simp only [beq_iff_eq]

/-- A FLOW evaluation put back as the lane, behind the reply. -/
theorem State.put_evalFlow {s : State} {l : LaneId} (v : LaneView) (hfree : v.free = s.poolFree)
    (halarms : v.alarms = s.alarms) : s.QuietFrame (s.put l (v.evalFlow flowFuel)) l :=
  State.put_quiet ⟨v.evalFlow_quiet.1.trans hfree, v.evalFlow_quiet.2.trans halarms⟩

/-- The layout of the settings as the LANESET payload gives it. -/
theorem LaneSet.bytes_layout (c : LaneSet) :
    c.bytes =
      [if c.confirmTones then 1 else 0, if c.inhibitOpen then 1 else 0, if c.strict then 1 else 0] ++
        bytes32n c.valueLimit ++ bytes16n c.dupWindow ++ [byteOf c.quota, byteOf c.high, byteOf c.low] ++
        bytes16n c.openLong ++ [c.hostMask.setWidth 8, c.keyMask.setWidth 8, c.consume.setWidth 8] ++
        (c.modes.toList.map fun m => match m with | .off => 0#8 | .rise => 1#8 | .both => 2#8) ++
        [if c.counterMode = .auto then 1 else 0, byteOf c.interval, byteOf c.priority.val] := by
  have hmode : ReportMode.byte = fun m => match m with | .off => 0#8 | .rise => 1#8 | .both => 2#8 := by
    funext m
    cases m <;> rfl
  have hcounter : c.counterMode.byte = if c.counterMode = .auto then 1 else 0 := by cases c.counterMode <;> rfl
  rw [LaneSet.bytes, hmode, hcounter]
  rfl

/-- Settles O11: a byte outside a list, the write, and the read. -/
theorem laneSetStoresAndActs : Obligations.LaneSetStoresAndActs := by
  unfold Obligations.LaneSetStoresAndActs
  intro s tag lane f l listed hs hl hlisted
  rw [← LaneSetFields.listed_iff] at hlisted
  refine ⟨fun h => ?unlisted, fun h => ?write, fun hr => ?read⟩
  case unlisted =>
    exact congrArg Host.Outcome.next
      (s.request_lane_same .laneSet tag hs (s.serve_laneSet lane 1 f) rfl hl
        (LaneView.serveLaneSet_unlisted _ (mt hlisted.mpr h)))
  case write =>
    have hf := hlisted.mp h
    obtain ⟨-, -, -, hhost, hkey, hconsume, hmodes, -⟩ := (LaneSetFields.listed_iff f).mp hf
    obtain ⟨p, hred, hstore⟩ := (s.view l).storeSet_eq f.store
    have hrange := laneSet_store_inRange f
    have hexec := State.request_answers .laneSet (tag := tag) hs (s.serve_laneSet lane 1 f) rfl hl
      (LaneView.serveLaneSet_stores (s.view l) hf)
    have hann : (s.view l).Announced ((s.view l).storeSet f.store) := LaneView.Announced.storeSet .refl _
    rw [hstore] at hexec hann
    rw [LaneSetFields.doneOrClamped_eq hf] at hexec
    have heval := ((s.view l).stored f.store p).evalFlow_evaluated
    refine ⟨_, f.store, _, _, _, congrArg Host.Outcome.next hexec, State.put_evalFlow _ rfl rfl, rfl, rfl, rfl, rfl, rfl,
      rfl, rfl, rfl, rfl, ?_, ?_, ?_, fun i => ?_, counterMode_of_beq_one _, rfl, clampPriority_val _,
      LaneSet.bytes_layout _, rfl, rfl, rfl, ?_, ?_, ?_⟩
    · exact toNat_setWidth_of_lt hhost
    · exact toNat_setWidth_of_lt hkey
    · exact toNat_setWidth_of_lt hconsume
    · exact (Vector.getElem_ofFn i.isLt).trans (ReportMode.ofByte_eq (hmodes i))
    · refine ⟨_, hred, ?_⟩
      rw [State.put_lanes_self]
      exact heval
    · exact fun h => State.AttnLaw.put (s := s.answered _ _ _ _) h hann
    · have hflow : p.reasons.flow = s.lanes[l].port.reasons.flow := by
        have hp : p.reasons = _ := congrArg (fun d : Lane => d.port.reasons) hred.frame
        rw [hp]
        dsimp only
        split <;> rfl
      rw [State.put_lanes_self, heval.flow hrange, ← hflow]
      rfl
  case read =>
    have hexec := State.request_answers .laneSet (tag := tag) hs (s.serve_laneSet lane 0 unexaminedSet) rfl hl
      (show (s.view l).serveLaneSet 0 unexaminedSet = ((s.view l).readSet, _) from rfl)
    have heval := (s.view l).evalFlow_evaluated
    refine ⟨_, congrArg Host.Outcome.next hexec, State.put_evalFlow _ rfl rfl, ?_, fun h => ?_, ?_⟩
    · rw [State.put_lanes_self]
      exact heval
    · exact State.AttnLaw.put (s := s.answered _ _ _ _) h (LaneView.Announced.evalFlow .refl _)
    · rw [State.put_lanes_self]
      exact heval.flow hr

end Sys2Proof.Machine
end

section
/-!
PROOFS. Events that are not heard (section 11.1, Log 2, Log 8), and the changes of the input lines (section 1.8, R51, R108).
-/

namespace Sys2Proof.Machine

/-! ### Timers that are stopped or not due, and lanes that are not ON -/

section

variable {v : LaneView}

theorem LaneView.settleExpiry_early (h : expired v.now v.ln.power.timer = false) : v.settleExpiry = v := by
  rw [LaneView.settleExpiry, h, Bool.and_false]
  rfl

theorem LaneView.typematicExpiry_unheard
    (h : v.ln.on = false ∨ expired v.now (v.ln.keys.typematic.map Typematic.point) = false) : v.typematicExpiry = v := by
  unfold LaneView.typematicExpiry
  split
  · rfl
  · next t ht =>
    rw [ht] at h
    obtain h | h := h
    · rw [h, Bool.false_and]
      rfl
    · rw [show reached v.now t.point = false from h, Bool.and_false]
      rfl

theorem LaneView.gapExpiry_unheard (h : v.ln.on = false ∨ expired v.now v.ln.port.rx.gap = false) : v.gapExpiry = v := by
  unfold LaneView.gapExpiry
  obtain h | h := h <;> rw [h]
  · rfl
  · rw [Bool.and_false]
    rfl

theorem LaneView.breakExpiry_unheard (h : v.ln.on = false ∨ expired v.now v.ln.port.brk.timer = false) :
    v.breakExpiry = v := by
  unfold LaneView.breakExpiry
  obtain h | h := h <;> rw [h]
  · rfl
  · rw [Bool.and_false]
    rfl

theorem LaneView.stabilityExpiry_unheard
    (h : v.ln.on = false ∨ expired v.now (v.ln.drawer.stability.map Stability.point) = false) :
    v.stabilityExpiry = v := by
  unfold LaneView.stabilityExpiry
  split
  · rfl
  · next st hst =>
    rw [hst] at h
    obtain h | h := h
    · rw [h, Bool.false_and]
      rfl
    · rw [show reached v.now st.point = false from h, Bool.and_false]
      rfl

theorem LaneView.pulseExpiry_early (h : expired v.now v.ln.drawer.pulse = false) : v.pulseExpiry = v := by
  rw [LaneView.pulseExpiry, h, Bool.and_false]
  rfl

theorem LaneView.confirmExpiry_early (h : expired v.now v.ln.drawer.confirm = false) : v.confirmExpiry = v := by
  rw [LaneView.confirmExpiry, h, Bool.and_false]
  rfl

theorem LaneView.openLongExpiry_early (h : expired v.now v.ln.drawer.openLong = false) : v.openLongExpiry = v := by
  rw [LaneView.openLongExpiry, h, Bool.and_false]
  rfl

theorem LaneView.reportExpiry_unheard (h : v.ln.on = false ∨ expired v.now v.ln.reportTimer = false) :
    v.reportExpiry = v := by
  unfold LaneView.reportExpiry
  split
  · rfl
  · next point hpoint =>
    rw [hpoint] at h
    obtain h | h := h
    · rw [h, Bool.false_and]
      rfl
    · rw [show reached v.now point = false from h, Bool.and_false]
      rfl

theorem LaneView.windowExpiry_early (h : expired v.now v.ln.filter.window = false) : v.windowExpiry = v := by
  rw [LaneView.windowExpiry, h]
  rfl

theorem LaneView.checkTimerExpiry_unheard (h : v.ln.on = false ∨ expired v.now v.ln.checker.timer = false) :
    v.checkTimerExpiry = v := by
  unfold LaneView.checkTimerExpiry
  obtain h | h := h <;> rw [h]
  · rfl
  · rw [Bool.and_false]
    rfl

theorem LaneView.sampleArrival_unheard (raw : BitVec 128)
    (h : v.ln.on = false ∨ expired v.now v.ln.keys.nextSample = false) : v.sampleArrival raw = v := by
  unfold LaneView.sampleArrival
  obtain h | h := h <;> rw [h]
  · rfl
  · rw [Bool.and_false]
    rfl

section

variable (hoff : v.ln.on = false)
include hoff

theorem LaneView.breakCharacter_off : v.breakCharacter = v := by
  rw [LaneView.breakCharacter, hoff]
  rfl

theorem LaneView.srxByte_off (rules : Vector CodeRule 16) (b : Byte) (e : Bool) : v.srxByte rules b e = v := by
  rw [LaneView.srxByte, hoff]
  rfl

theorem LaneView.frameCompletion_off (rules : Vector CodeRule 16) : v.frameCompletion rules = v := by
  unfold LaneView.frameCompletion
  split
  · rw [hoff]
    rfl
  · rfl

theorem LaneView.commandSent_off : v.commandSent = v := by
  rw [LaneView.commandSent, hoff]
  rfl

theorem LaneView.checkByteSent_off : v.checkByteSent = v := by
  rw [LaneView.checkByteSent, hoff]
  rfl

end

end

theorem exec_hostGapExpiry_early {s : State} (h : expired s.timeBase s.link.rx.gap = false) :
    exec .hostGapExpiry s = .next s := by
  show Host.Outcome.next (if _ then s.discardFrame else s) = .next s
  rw [h, Bool.and_false]
  rfl

/-- Settles O16: each timer in turn, then the thirteen rows of a lane that is not ON. -/
theorem unheardEventsChangeNothing : Obligations.UnheardEventsChangeNothing := by
  unfold Obligations.UnheardEventsChangeNothing
  intro s l _
  refine ⟨fun h => ?settle, fun h => ?typematic, fun h => ?gap, fun h => ?brk, fun h => ?stability, fun h => ?pulse,
    fun h => ?confirm, fun h => ?openLong, fun h => ?report, fun h => ?window, fun h => ?check,
    exec_hostGapExpiry_early, fun h raw => ?sample, fun hoff raw b e => ?off⟩
  case settle => exact State.heard_same (f := LaneView.settleExpiry) rfl (LaneView.settleExpiry_early h)
  case typematic => exact State.heard_same (f := LaneView.typematicExpiry) rfl (LaneView.typematicExpiry_unheard (.inr h))
  case gap => exact State.heard_same (f := LaneView.gapExpiry) rfl (LaneView.gapExpiry_unheard (.inr h))
  case brk => exact State.heard_same (f := LaneView.breakExpiry) rfl (LaneView.breakExpiry_unheard (.inr h))
  case stability => exact State.heard_same (f := LaneView.stabilityExpiry) rfl (LaneView.stabilityExpiry_unheard (.inr h))
  case pulse => exact State.heard_same (f := LaneView.pulseExpiry) rfl (LaneView.pulseExpiry_early h)
  case confirm => exact State.heard_same (f := LaneView.confirmExpiry) rfl (LaneView.confirmExpiry_early h)
  case openLong => exact State.heard_same (f := LaneView.openLongExpiry) rfl (LaneView.openLongExpiry_early h)
  case report => exact State.heard_same (f := LaneView.reportExpiry) rfl (LaneView.reportExpiry_unheard (.inr h))
  case window => exact State.heard_same (f := LaneView.windowExpiry) rfl (LaneView.windowExpiry_early h)
  case check => exact State.heard_same (f := LaneView.checkTimerExpiry) rfl (LaneView.checkTimerExpiry_unheard (.inr h))
  case sample => exact State.heard_same rfl (LaneView.sampleArrival_unheard raw (.inr h))
  case off =>
    refine ⟨State.heard_same rfl (LaneView.sampleArrival_unheard raw (.inl hoff)),
      State.heard_same (f := LaneView.typematicExpiry) rfl (LaneView.typematicExpiry_unheard (.inl hoff)),
      State.heard_same rfl (LaneView.srxByte_off hoff s.rules b e),
      State.heard_same rfl (LaneView.frameCompletion_off hoff s.rules),
      State.heard_same (f := LaneView.gapExpiry) rfl (LaneView.gapExpiry_unheard (.inl hoff)),
      State.heard_same (f := LaneView.breakCharacter) rfl (LaneView.breakCharacter_off hoff),
      State.heard_same (f := LaneView.breakExpiry) rfl (LaneView.breakExpiry_unheard (.inl hoff)),
      State.heard_same (f := LaneView.commandSent) rfl (LaneView.commandSent_off hoff),
      State.heard_same (f := LaneView.stabilityExpiry) rfl (LaneView.stabilityExpiry_unheard (.inl hoff)),
      State.heard_same (f := LaneView.reportExpiry) rfl (LaneView.reportExpiry_unheard (.inl hoff)),
      State.heard_same (f := LaneView.checkByteSent) rfl (LaneView.checkByteSent_off hoff),
      State.heard_same rfl (LaneView.srxByte_off hoff s.rules b e),
      State.heard_same (f := LaneView.checkTimerExpiry) rfl (LaneView.checkTimerExpiry_unheard (.inl hoff))⟩

/-! ### Changes of the input lines -/

theorem State.put_put (s : State) (l : LaneId) (v w : LaneView) : (s.put l v).put l w = s.put l w := by
  simp only [State.put, Vector.set_set]

/-- A lane put back is seen as it was put, with what lies outside it. -/
theorem State.view_put (s : State) (l : LaneId) (v : LaneView) :
    (s.put l v).view l = { v with now := s.timeBase, id := l, lockdown := s.lockdown } := by
  have hln := s.put_lanes_self l v
  unfold State.view
  rw [hln]
  rfl

/-- A line of lane `l` takes a level, and the lane hears the change. -/
theorem State.line_heard {s : State} {l : LaneId} (hs : s.held = false) (pins : LanePins) (f : LaneView → LaneView) :
    (s.onLane l fun v => v.setPins pins).laneEvent l f = s.put l (f ((s.view l).setPins pins)) := by
  rw [State.laneEvent_heard _ _ _ (show (s.onLane l _).held = false from hs)]
  unfold State.onLane
  rw [State.view_put, State.put_put]
  rfl

theorem exec_dsnChange {s : State} {l : LaneId} (hs : s.held = false) {level : Sense}
    (h : s.lanes[l].pins.dsn ≠ level) :
    exec (.dsnChange l level) s =
      .next (s.put l (((s.view l).setPins { s.lanes[l].pins with dsn := level }).dsnChange level)) := by
  show Host.Outcome.next (if _ then s else _) = _
  rw [if_neg h]
  exact congrArg Host.Outcome.next (State.line_heard hs { s.lanes[l].pins with dsn := level } _)

theorem exec_srxLevelChange {s : State} {l : LaneId} (hs : s.held = false) {level : LineLevel}
    (h : s.lanes[l].pins.srx ≠ level) :
    exec (.srxLevelChange l level) s =
      .next (s.put l (((s.view l).setPins { s.lanes[l].pins with srx := level }).srxChange level)) := by
  show Host.Outcome.next (if _ then s else _) = _
  rw [if_neg h]
  exact congrArg Host.Outcome.next (State.line_heard hs { s.lanes[l].pins with srx := level } _)

/-- The break detector of an ON lane as SRXn takes a level at `now` (R51). -/
def BreakDetector.watching (b : BreakDetector) (level : LineLevel) (now : Time) : BreakDetector :=
  { b with held := some { level := level, since := now }, timer := some (after now Config.breakTime) }

theorem LaneView.dsnChange_eq (v : LaneView) (level : Sense) :
    v.dsnChange level =
      v.setDrawer
        { v.ln.drawer with
          stability :=
            if v.ln.on then some { point := after v.now Config.senseTime, level := level } else v.ln.drawer.stability } := by
  unfold LaneView.dsnChange
  cases v.ln.on <;> rfl

/-- A change of SRXn that ends no pending frame (R51). -/
theorem LaneView.srxChange_eq {v : LaneView} {level : LineLevel}
    (h : v.ln.on = false ∨ level = .space ∨ v.ln.port.rx.breakPending = false) :
    v.srxChange level =
      v.setPort { v.ln.port with brk := if v.ln.on then v.ln.port.brk.watching level v.now else v.ln.port.brk } := by
  unfold LaneView.srxChange
  cases hon : v.ln.on
  · rfl
  · have hkeeps : (decide (level = .mark) && v.ln.port.rx.breakPending) = false := by
      obtain h | rfl | h := h
      · rw [hon] at h
        cases h
      · rfl
      · rw [h, Bool.and_false]
    rw [if_pos rfl]
    dsimp only
    rw [hkeeps]
    rfl

theorem LaneView.breakCharacter_eq (v : LaneView) :
    v.breakCharacter =
      v.setRx
        { v.ln.port.rx with
          breakPending :=
            v.ln.port.rx.breakPending || (v.ln.on && !v.ln.checking && decide (v.ln.port.rx.state ≠ .idle)) } := by
  unfold LaneView.breakCharacter
  cases v.ln.on && !v.ln.checking && decide (v.ln.port.rx.state ≠ .idle)
  · rw [Bool.or_false]
    rfl
  · rw [Bool.or_true]
    rfl

/-- Settles O15: the two lines at the level they had and at another, and the break character. -/
theorem lineChangesRestartTheirTimers : Obligations.LineChangesRestartTheirTimers := by
  unfold Obligations.LineChangesRestartTheirTimers
  intro s l hs
  refine ⟨fun level h => ?dsnSame, fun level h => ?dsn, fun level h => ?srxSame, fun level h hkeeps => ?srx, ⟨?byte, ?check⟩,
    ?character⟩
  case dsnSame => exact congrArg Host.Outcome.next (if_pos h)
  case srxSame => exact congrArg Host.Outcome.next (if_pos h)
  case dsn =>
    rw [exec_dsnChange hs h, LaneView.dsnChange_eq]
    rfl
  case srx =>
    rw [exec_srxLevelChange hs h, LaneView.srxChange_eq (by exact hkeeps)]
    rfl
  case byte =>
    rw [State.heard hs (f := fun v => v.srxByte s.rules 0x00 true) rfl, State.heard hs (f := LaneView.breakCharacter) rfl,
      LaneView.srxByte_break _ _ _ _ rfl]
  case check =>
    rw [State.heard hs (f := fun v => v.srxByte s.rules 0x00 true) rfl, State.heard hs (f := LaneView.breakCharacter) rfl,
      LaneView.srxByte_break _ _ _ _ rfl]
  case character =>
    rw [State.heard hs (f := LaneView.breakCharacter) rfl, LaneView.breakCharacter_eq]
    rfl

end Sys2Proof.Machine
end

section
/-!
PROOFS. Chapter 8: the arbiter (R157, R158), what a FETCH removes (R100, R151 to R155), and the layouts of records (R190).
-/

namespace Sys2Proof.Machine

/-! ### The arbiter (R157, R158) -/

/-- The place of a lane in the order a pointer tries: 0 for the lane after it, 7 for its own. -/
def rotation (pointer l : LaneId) : Nat := (l.val + 7 - pointer.val) % 8

theorem lanesAfter_sorted :
    ∀ pointer : LaneId, (lanesAfter pointer).Pairwise fun k l => rotation pointer k ≤ rotation pointer l := by decide

theorem mem_lanesAfter : ∀ pointer l : LaneId, l ∈ lanesAfter pointer := by decide

theorem Lane.waiting_iff (d : Lane) : d.waiting = true ↔ d.queue.records ≠ [] := decide_eq_true_iff

theorem State.inGroup_iff (s : State) (g : Fin 5) (l : LaneId) :
    s.inGroup g l = true ↔ s.lanes[l].queue.records ≠ [] ∧ s.lanes[l].group = g := by
  rw [State.inGroup, Bool.and_eq_true, Lane.waiting_iff, decide_eq_true_iff]

/-- A group's pointer chooses no lane exactly when no candidate belongs to the group. -/
theorem State.chooseIn_eq_none (s : State) (g : Fin 5) :
    s.chooseIn g = none ↔ ∀ l : LaneId, s.lanes[l].queue.records ≠ [] → s.lanes[l].group ≠ g := by
  rw [State.chooseIn, List.find?_eq_none]
  constructor
  · exact fun h l hwait hg => h l (mem_lanesAfter _ l) ((s.inGroup_iff g l).mpr ⟨hwait, hg⟩)
  · intro h l _ hin
    obtain ⟨hwait, hg⟩ := (s.inGroup_iff g l).mp hin
    exact h l hwait hg

/-- The lane a pointer chooses is a candidate of the group, the first one behind the pointer. -/
theorem State.chooseIn_eq_some {s : State} {g : Fin 5} {l : LaneId} (h : s.chooseIn g = some l) :
    (s.lanes[l].queue.records ≠ [] ∧ s.lanes[l].group = g) ∧
      ∀ k : LaneId, s.lanes[k].queue.records ≠ [] → s.lanes[k].group = g →
        rotation s.pointers[g] l ≤ rotation s.pointers[g] k := by
  obtain ⟨hl, before, later, horder, hbefore⟩ := List.find?_eq_some_iff_append.mp h
  refine ⟨(s.inGroup_iff g l).mp hl, fun k hwait hg => ?_⟩
  have hk := mem_lanesAfter s.pointers[g] k
  have hsorted := lanesAfter_sorted s.pointers[g]
  rw [horder] at hk hsorted
  obtain ⟨-, htail, -⟩ := List.pairwise_append.mp hsorted
  obtain hk | hk := List.mem_append.mp hk
  · have hnot := hbefore k hk
    rw [(s.inGroup_iff g k).mpr ⟨hwait, hg⟩] at hnot
    cases hnot
  · obtain rfl | hk := List.mem_cons.mp hk
    · exact Nat.le_refl _
    · exact (List.pairwise_cons.mp htail).1 k hk

theorem State.arbiterChoice_eq_none (s : State) :
    s.arbiterChoice = none ↔ ∀ l : LaneId, s.lanes[l].queue.records = [] := by
  rw [State.arbiterChoice, List.findSome?_eq_none_iff]
  simp only [Option.map_eq_none_iff, State.chooseIn_eq_none]
  constructor
  · exact fun h l => by_contra fun hwait => h _ (List.mem_finRange _) l hwait rfl
  · exact fun h _ _ l hwait => absurd (h l) hwait

/-- The arbiter's choice is made in the first group that has a candidate. -/
theorem State.arbiterChoice_eq_some {s : State} {g : Fin 5} {l : LaneId} (h : s.arbiterChoice = some (g, l)) :
    s.chooseIn g = some l ∧ ∀ k : LaneId, s.lanes[k].queue.records ≠ [] → g ≤ s.lanes[k].group := by
  obtain ⟨before, first, later, horder, hfirst, hbefore⟩ := List.findSome?_eq_some_iff.mp h
  obtain ⟨l', hchoose, heq⟩ := Option.map_eq_some_iff.mp hfirst
  obtain ⟨rfl, rfl⟩ := Prod.mk.inj heq
  refine ⟨hchoose, fun k hwait => ?_⟩
  have hk := List.mem_finRange s.lanes[k].group
  have hsorted := List.pairwise_lt_finRange 5
  rw [horder] at hk hsorted
  obtain ⟨-, htail, -⟩ := List.pairwise_append.mp hsorted
  obtain hk | hk := List.mem_append.mp hk
  · exact absurd rfl ((s.chooseIn_eq_none _).mp (Option.map_eq_none_iff.mp (hbefore _ hk)) k hwait)
  · obtain hk | hk := List.mem_cons.mp hk
    · exact hk.ge
    · exact ((List.pairwise_cons.mp htail).1 _ hk).le

theorem Lane.group_val (d : Lane) :
    d.group.val = if d.set.high ≤ d.queue.records.length then 0 else 4 - d.set.priority.val := by
  unfold Lane.group Lane.pressed Lane.count
  by_cases h : d.set.high ≤ d.queue.records.length
  · rw [if_pos (decide_eq_true h), if_pos h]
    rfl
  · rw [if_neg (by rw [decide_eq_true_iff]; exact h), if_neg h]
    generalize d.set.priority = p
    revert p
    decide

/-- Settles O19: no candidate, the rank of a lane's group, and the choice. -/
theorem arbiterRanksGroupsAndRotates : Obligations.ArbiterRanksGroupsAndRotates := by
  unfold Obligations.ArbiterRanksGroupsAndRotates
  refine ⟨State.arbiterChoice_eq_none, Lane.group_val, fun s g l h => ?choice⟩
  case choice =>
    obtain ⟨hchoose, hfirst⟩ := State.arbiterChoice_eq_some h
    obtain ⟨⟨hwait, hg⟩, hrotates⟩ := State.chooseIn_eq_some hchoose
    exact ⟨hwait, hg, hfirst, hrotates⟩

end Sys2Proof.Machine
end

section
/-!
PROOFS. FETCH: what it removes and answers (R100, R151 to R155, R160), and the layouts of records and alarms (R190).
-/

namespace Sys2Proof.Machine

/-! ### The reply -/

theorem fetchCode_eq (b : Byte) : fetchCode b = if 1 ≤ b.toNat ∧ b.toNat ≤ 8 then .done else .clamped := by
  have h : fetchMaximum b = b.toNat ↔ 1 ≤ b.toNat ∧ b.toNat ≤ 8 := by
    unfold fetchMaximum clamp
    split
    · omega
    · split <;> omega
  rw [fetchCode]
  simp only [h]

theorem fetchBody_map {α : Type} (source : Byte) (bytes : α → List Byte) (records : List α) (remaining : Nat) :
    fetchBody source (records.map bytes) remaining =
      [source, byteOf records.length] ++ bytes16n remaining ++
        (records.map fun r => byteOf (bytes r).length :: bytes r).flatten := by
  rw [fetchBody, List.length_map, List.map_map]
  rfl

theorem fetch_byte_ne_release : RequestKind.fetch.byte ≠ 0x0A#8 := by decide

theorem exec_fetchLane {s : State} {lane : Byte} {l : LaneId} (tag maximum : Byte) (hs : s.ready)
    (hl : lane.toNat = l.val) :
    exec (.fetchLane tag lane maximum) s =
      .next ((s.fetchFrom l (fetchMaximum maximum)).1.answered 0x89 tag (fetchCode maximum)
        (s.fetchFrom l (fetchMaximum maximum)).2) := by
  have hlt : lane.toNat < 8 := hl ▸ l.isLt
  have heq : (⟨lane.toNat, hlt⟩ : LaneId) = l := Fin.ext hl
  have hserve : s.serve (.fetch lane maximum) =
      ((s.fetchFrom l (fetchMaximum maximum)).1,
        { code := fetchCode maximum, body := (s.fetchFrom l (fetchMaximum maximum)).2 }) := by
    rw [State.serve, State.serveFetch, if_neg (lane_byte_ne_any lane l hl), State.withLane, dif_pos hlt, heq]
  show Host.Outcome.next (s.request tag (.fetch lane maximum)) = _
  rw [s.request_ready tag _ hs, hserve]
  exact congrArg Host.Outcome.next (State.pushReply_answer _ _ tag _ fetch_byte_ne_release)

theorem exec_fetchAny {s : State} (tag maximum : Byte) (hs : s.ready) :
    exec (.fetchAny tag maximum) s =
      .next ((s.fetchAny (fetchMaximum maximum)).1.answered 0x89 tag (fetchCode maximum)
        (s.fetchAny (fetchMaximum maximum)).2) := by
  show Host.Outcome.next (s.request tag (.fetch anyLaneByte maximum)) = _
  rw [s.request_ready tag _ hs]
  exact congrArg Host.Outcome.next (State.pushReply_answer _ _ tag _ fetch_byte_ne_release)

/-! ### The lane a FETCH draws from -/

/-- What the removal of `taken` records leaves of a lane, FLOW being evaluated when any left (R100). -/
structure LaneView.Removed (v w : LaneView) (n : Nat) : Prop where
  free : w.free = v.free + slotCount (v.ln.queue.records.take n)
  alarms : w.alarms = v.alarms
  held : w.ln.queue.held = v.ln.queue.held - slotCount (v.ln.queue.records.take n)
  none : v.ln.queue.records.take n = [] → w.ln = v.ln
  some : v.ln.queue.records.take n ≠ [] → (v.withoutHead n).ln.FlowEvaluated w.ln v.id v.now

theorem LaneView.removeRecords_removed (v : LaneView) (n : Nat) : v.Removed (v.removeRecords n) n := by
  rw [v.removeRecords_eq]
  by_cases h : v.ln.queue.records.take n = []
  · rw [if_pos h]
    have hslots : slotCount (v.ln.queue.records.take n) = 0 := by
      rw [h]
      rfl
    exact ⟨by rw [hslots, Nat.add_zero], rfl, by rw [hslots, Nat.sub_zero], fun _ => rfl, fun hne => absurd h hne⟩
  · rw [if_neg h]
    obtain ⟨hframe, hfree, -, hheld⟩ := LaneView.evalFlow_spec flowFuel (v.withoutHead n)
    exact ⟨hfree, hframe.alarms, hheld, fun hnil => absurd hnil h, fun _ => (v.withoutHead n).evalFlow_evaluated⟩

theorem LaneView.Removed.flow {v w : LaneView} {n : Nat} (h : v.Removed w n) (hr : v.ln.set.InRange) :
    w.ln.port.reasons.flow =
      if v.ln.queue.records.take n = [] then v.ln.port.reasons.flow else (v.withoutHead n).ln.flowOf := by
  by_cases hnil : v.ln.queue.records.take n = []
  · rw [if_pos hnil, h.none hnil]
  · rw [if_neg hnil]
    exact (h.some hnil).flow hr

theorem State.fetchFrom_frame (s : State) (l : LaneId) (n : Nat) : s.LaneFrame (s.fetchFrom l n).1 l :=
  { s.onLane_frame l fun v => v.removeRecords n with }

/-- The same reply behind both states of a frame. -/
theorem State.LaneFrame.answered {s t : State} {l : LaneId} (h : s.LaneFrame t l) (kind tag : Byte) (code : ReplyCode)
    (body : List Byte) : (s.answered kind tag code body).LaneFrame (t.answered kind tag code body) l :=
  { h with link := by rw [State.answered, State.answered, h.link] }

/-! ### Layouts (R190) -/

/-- The bytes of a record, its kind byte and body being given. -/
theorem LaneRecord.bytes_of (r : LaneRecord) {kind : Byte} {body : List Byte}
    (h : (kind, body) = (r.body.kindByte, r.body.bytes)) :
    r.bytes = [kind, byteOf r.lane.val] ++ bytes16 r.seq ++ bytes32 r.time ++ [byteOf r.lost] ++ body := by
  obtain ⟨rfl, rfl⟩ := Prod.mk.inj h
  rfl

/-- Settles O17: the removal, then the layouts. -/
theorem fetchOfALaneRemovesItsOldestRecords : Obligations.FetchOfALaneRemovesItsOldestRecords := by
  unfold Obligations.FetchOfALaneRemovesItsOldestRecords
  refine ⟨fun s tag lane maximum l hs hl hr => ?removal, fun r kind body h => ?layout, rfl, rfl, rfl⟩
  case removal =>
    have hremoved := (s.view l).removeRecords_removed (fetchMaximum maximum)
    have hflow := hremoved.flow hr
    refine ⟨_, s.lanes[l].queue.records.take (fetchMaximum maximum), s.lanes[l].queue.records.drop (fetchMaximum maximum),
      _, exec_fetchLane tag maximum hs hl, rfl, (List.take_append_drop _ _).symm, rfl, ?frame, hremoved.alarms,
      hremoved.free, ?none, ?some, ?held, fun h => State.AttnLaw.fetchFrom h l _, ?flow⟩
    case frame =>
      rw [← fetchCode_eq, ← fetchBody_map]
      exact (s.fetchFrom_frame l _).answered 0x89 tag _ _
    case none =>
      intro hnil
      exact (State.put_lanes_self s l _).trans (hremoved.none hnil)
    case some =>
      intro hne
      have hlane := State.put_lanes_self s l ((s.view l).removeRecords (fetchMaximum maximum))
      have heval := hremoved.some hne
      rw [← hlane] at heval
      exact heval
    case held =>
      exact (congrArg (fun d : Lane => d.queue.held) (State.put_lanes_self s l _)).trans hremoved.held
    case flow =>
      exact (congrArg (fun d : Lane => d.port.reasons.flow) (State.put_lanes_self s l _)).trans hflow
  case layout =>
    refine r.bytes_of (h.trans ?_)
    cases r.body with
    | scan code rule tag checked training value => cases rule <;> cases value <;> rfl
    | reject code reason rule => cases rule <;> rfl
    | drawer event state source refusal duration =>
      cases refusal <;> cases duration <;> obtain _ | _ | _ := source <;> rfl
    | lane state progress => cases progress <;> rfl
    | condition c live => cases c <;> rfl
    | _ => rfl

/-- Settles O18: the alarm queue, no record, the arbiter's lane, and the layout. -/
theorem fetchAnyServesAlarmsThenTheChosenLane : Obligations.FetchAnyServesAlarmsThenTheChosenLane := by
  unfold Obligations.FetchAnyServesAlarmsThenTheChosenLane
  refine ⟨fun s tag maximum hs => ⟨fun hne => ?alarms, fun hnil hlanes => ?empty, fun g l hnil hchoice => ?lane⟩,
    fun a => ?layout⟩
  case alarms =>
    have hfetch : s.fetchAny (fetchMaximum maximum) = s.fetchAlarms (fetchMaximum maximum) := if_pos hne
    refine ⟨_, s.alarms.take (fetchMaximum maximum), s.alarms.drop (fetchMaximum maximum), _,
      exec_fetchAny tag maximum hs, rfl, (List.take_append_drop _ _).symm, rfl, ?_⟩
    rw [hfetch, fetchCode_eq, ← fetchBody_map]
    rfl
  case empty =>
    have hchoice := (State.arbiterChoice_eq_none s).mpr hlanes
    have hremaining : s.remaining = 0 := by
      rw [State.remaining, hnil, List.length_nil, Nat.zero_add, List.sum_eq_zero_iff_forall_eq_nat]
      intro n hn
      obtain ⟨d, hd, rfl⟩ := List.mem_map.mp hn
      obtain ⟨i, hi, rfl⟩ := Vector.getElem_of_mem (Vector.mem_toList_iff.mp hd)
      exact List.length_eq_zero_iff.mpr (hlanes ⟨i, hi⟩)
    have hfetch : s.fetchAny (fetchMaximum maximum) = (s, fetchBody 0xFF [] s.remaining) := by
      unfold State.fetchAny
      rw [if_neg (not_not.mpr hnil), hchoice]
    rw [exec_fetchAny tag maximum hs, hfetch, fetchCode_eq, hremaining]
    rfl
  case lane =>
    have hbyte : (byteOf l.val).toNat = l.val := Nat.mod_eq_of_lt (l.isLt.trans (by decide))
    have hfetch : s.fetchAny (fetchMaximum maximum) =
        State.fetchFrom { s with pointers := s.pointers.set g l } l (fetchMaximum maximum) := by
      unfold State.fetchAny
      rw [if_neg (not_not.mpr hnil), hchoice]
    rw [exec_fetchAny tag maximum hs, hfetch,
      exec_fetchLane (s := { s with pointers := s.pointers.set g l }) tag maximum hs hbyte]
  case layout =>
    cases hk : a.kind <;> cases hl : a.lane <;> rw [Alarm.bytes, hk, hl] <;> rfl

end Sys2Proof.Machine
end

section
/-!
PROOFS. INHIBIT, TONE, the end of a scanner command and the line STXn (R53 to R62); COUNTS and the two timers of the counters
and the duplicate filter (R77, R143, R145).
-/

namespace Sys2Proof.Machine

/-- A lane request taken that changes its lane alone. -/
theorem State.request_alone {s : State} (k : RequestKind) {tag : Byte} {r : Request} {lane : Byte} {l : LaneId}
    {f : LaneView → LaneView × Answer} {d : Lane} {code : ReplyCode} {body : List Byte} (hs : s.ready)
    (hserve : s.serve r = s.answerLane lane f) (hk : r.kind = k) (hl : lane.toNat = l.val)
    (hf : f (s.view l) = ({ s.view l with ln := d }, { code := code, body := body })) (hne : k ≠ .release := by decide) :
    s.request tag r = (s.withLaneAs l d).answered (k.byte ||| 0x80) tag code body := by
  rw [s.request_lane k tag hs hserve hk hl hne, hf]
  rfl

/-! ### INHIBIT (R58) -/

theorem LaneView.setReasons_lane (v : LaneView) (r : Reasons) :
    ∃ d, v.setReasons r = { v with ln := d } ∧ v.ln.Redirected d r := by
  obtain ⟨p, hp, -⟩ := v.setReasons_eq r
  refine ⟨{ v.ln with port := p }, hp, ?_⟩
  have h := v.setReasons_redirected r
  rw [hp] at h
  exact h

section

variable {v : LaneView}

theorem whenOn_on (h : v.ln.on = true) (r : LaneView × Answer) : whenOn v r = r := if_pos h

theorem whenOn_off (h : v.ln.on = false) (r : LaneView × Answer) : whenOn v r = (v, .only .notReady) :=
  if_neg (by rw [h]; exact Bool.false_ne_true)

theorem LaneView.serveInhibit_on (v : LaneView) :
    v.serveInhibit 1 = whenOn v (v.setHostReason true, .only .done) := rfl

theorem LaneView.serveInhibit_off (v : LaneView) : v.serveInhibit 0 = (v.setHostReason false, .only .done) := rfl

/-! ### TONE (R54, R62) -/

theorem Tone.ofByte_none {b : Byte} (h : 2 ≤ b.toNat) : Tone.ofByte b = none := by
  unfold Tone.ofByte
  split
  · omega
  · omega
  · rfl

theorem Tone.ofByte_some {b : Byte} (h : b.toNat < 2) : Tone.ofByte b = some (if b = 0 then .good else .bad) := by
  have hb : b = 0 ∨ b = 1 := by
    obtain h | h : b.toNat = 0 ∨ b.toNat = 1 := by omega
    · exact .inl (BitVec.eq_of_toNat_eq h)
    · exact .inr (BitVec.eq_of_toNat_eq h)
  obtain rfl | rfl := hb <;> rfl

theorem ScannerPort.toneFits_iff (p : ScannerPort) :
    p.toneFits = true ↔ (p.cmds.tail.filter ScanCmd.isTone).length < 3 ∧ p.cmds.length < 4 := by
  rw [ScannerPort.toneFits, Bool.and_eq_true, decide_eq_true_iff, decide_eq_true_iff]
  rfl

theorem LaneView.requestTone_badField {tone : Byte} (h : 2 ≤ tone.toNat) : v.requestTone tone = (v, .badField) := by
  rw [LaneView.requestTone, Tone.ofByte_none h]

theorem LaneView.requestTone_checking {tone : Byte} (h : tone.toNat < 2) (hch : v.ln.checking = true) :
    v.requestTone tone = (v, .busy) := by
  rw [LaneView.requestTone, Tone.ofByte_some h]
  exact if_pos hch

theorem LaneView.requestTone_full {tone : Byte} (h : tone.toNat < 2) (hch : v.ln.checking = false)
    (hfits : v.ln.port.toneFits = false) : v.requestTone tone = (v, .busy) := by
  rw [LaneView.requestTone, Tone.ofByte_some h]
  dsimp only
  rw [hch, hfits]
  rfl

theorem LaneView.requestTone_joins {tone : Byte} (h : tone.toNat < 2) (hon : v.ln.on = true)
    (hch : v.ln.checking = false) (hfits : (v.ln.port.cmds.tail.filter ScanCmd.isTone).length < 3 ∧ v.ln.port.cmds.length < 4) :
    v.requestTone tone =
      (v.setPort { v.ln.port with cmds := v.ln.port.cmds ++ [.tone (if tone = 0 then .good else .bad)] }, .done) := by
  have hjoins (t : Tone) : v.offerTone t = v.setPort { v.ln.port with cmds := v.ln.port.cmds ++ [.tone t] } := by
    have hqueue : v.ln.port.withTone t = v.ln.port.cmds ++ [.tone t] :=
      if_pos ⟨Nat.le_of_lt_succ hfits.1, Nat.le_of_lt_succ hfits.2⟩
    rw [LaneView.offerTone, hon, hch, ScannerPort.offerTone_eq, hqueue]
    rfl
  rw [LaneView.requestTone, Tone.ofByte_some h]
  dsimp only
  rw [hch, (ScannerPort.toneFits_iff _).mpr hfits, hjoins]
  rfl

/-! ### The end of a command, and STXn (R53, R163) -/

/-- The line state as the head leaves the queue and `rest` stays. -/
def lineStateBehind (line : Option Enable) : List ScanCmd → Option Enable
  | .enable e :: _ => some e
  | .tone _ :: _ => line
  | [] => line

theorem LaneView.commandSent_eq {c : ScanCmd} {rest : List ScanCmd} (hon : v.ln.on = true) (hch : v.ln.checking = false)
    (hcmds : v.ln.port.cmds = c :: rest) :
    v.commandSent =
      v.setPort { v.ln.port with cmds := rest, lineState := lineStateBehind v.ln.port.lineState rest } := by
  rw [LaneView.commandSent, hon, hch, hcmds]
  show v.setPort v.ln.port.commandSent = _
  unfold ScannerPort.commandSent
  rw [hcmds]
  obtain _ | ⟨_ | _, _⟩ := rest <;> rfl

end

theorem Lane.stx_off {d : Lane} (h : d.on = false) : d.stx = .mark := by
  rw [Lane.stx, h]
  rfl

/-- Settles O26: INHIBIT, TONE, the end of a command, and what STXn carries. -/
theorem inhibitToneAndCommandSent : Obligations.InhibitToneAndCommandSent := by
  unfold Obligations.InhibitToneAndCommandSent
  refine ⟨fun s tag lane l hs hl => ⟨fun hoff => ?onRefused, fun hon => ?on, ?off⟩,
    ⟨fun s tag lane tone l hs hl => ⟨fun hoff => ?toneOff, fun hon h => ?toneBad, fun hon h hch => ?toneCheck,
      fun hon h hch hfull => ?toneFull, fun hon h hch htones hlen => ?toneJoins⟩,
    fun s l c rest hs hon hch hcmds => ?sent⟩, fun d => ⟨Lane.stx_off, fun hon hch => ?stxCheck, fun hon hch => ?stxCommand⟩,
    fun c b hb => ?frame⟩
  case onRefused =>
    exact congrArg Host.Outcome.next
      (s.request_lane_same .inhibit tag hs (s.serve_inhibit lane 1) rfl hl (whenOn_off hoff _))
  case on =>
    obtain ⟨d, hd, hred⟩ := (s.view l).setReasons_lane { s.lanes[l].port.reasons with host := true }
    refine ⟨d, congrArg Host.Outcome.next
      (State.request_alone .inhibit hs (s.serve_inhibit lane 1) rfl hl ?_), hred⟩
    rw [LaneView.serveInhibit_on, whenOn_on hon]
    exact congrArg (fun w => (w, Answer.only .done)) hd
  case off =>
    obtain ⟨d, hd, hred⟩ := (s.view l).setReasons_lane { s.lanes[l].port.reasons with host := false }
    exact ⟨d, congrArg Host.Outcome.next
      (State.request_alone .inhibit hs (s.serve_inhibit lane 0) rfl hl
        (congrArg (fun w => (w, Answer.only .done)) hd)), hred⟩
  case toneOff =>
    exact congrArg Host.Outcome.next
      (s.request_lane_same .tone tag hs (s.serve_tone lane tone) rfl hl (whenOn_off hoff _))
  case toneBad =>
    refine congrArg Host.Outcome.next
      (s.request_lane_same .tone tag hs (s.serve_tone lane tone) rfl hl (a := .only .badField) ?_)
    rw [whenOn_on hon, LaneView.requestTone_badField h]
    rfl
  case toneCheck =>
    refine congrArg Host.Outcome.next
      (s.request_lane_same .tone tag hs (s.serve_tone lane tone) rfl hl (a := .only .busy) ?_)
    rw [whenOn_on hon, LaneView.requestTone_checking h hch]
    rfl
  case toneFull =>
    refine congrArg Host.Outcome.next
      (s.request_lane_same .tone tag hs (s.serve_tone lane tone) rfl hl (a := .only .busy) ?_)
    have hfits : (s.view l).ln.port.toneFits = false := by
      rw [Bool.eq_false_iff, Ne, ScannerPort.toneFits_iff, not_and_or, Nat.not_lt, Nat.not_lt]
      exact hfull
    rw [whenOn_on hon, LaneView.requestTone_full h hch hfits]
    rfl
  case toneJoins =>
    refine congrArg Host.Outcome.next (State.request_alone .tone hs (s.serve_tone lane tone) rfl hl ?_)
    rw [whenOn_on hon, LaneView.requestTone_joins h hon hch ⟨htones, hlen⟩]
    rfl
  case sent =>
    rw [State.heard_alone hs (f := LaneView.commandSent) rfl (LaneView.commandSent_eq hon hch hcmds)]
    obtain _ | ⟨_ | _, _⟩ := rest <;> rfl
  case stxCheck =>
    rw [Lane.stx, hon, hch]
    rfl
  case stxCommand =>
    rw [Lane.stx, hon, hch]
    rfl
  case frame =>
    subst hb
    obtain (_ | _) | (_ | _) := c <;> rfl

end Sys2Proof.Machine
end

section
/-!
PROOFS. COUNTS (R145), the report timer (R143, R144) and the duplicate window (R77).
-/

namespace Sys2Proof.Machine

/-! ### COUNTS (R145) -/

section

variable {v : LaneView}

theorem LaneView.closeCounters_changed {before : Counters} (h : v.ln.counters ≠ before) :
    v.closeCounters before = v.handOver .counterFull v.ln.counters.full := if_neg h

theorem LaneView.closeCounters_same {before : Counters} (h : v.ln.counters = before) : v.closeCounters before = v :=
  if_pos h

theorem LaneView.serveCounts_listed {clear : Byte} (h : isChoice clear = true) :
    v.serveCounts clear =
      ((v.countsRequest (clear == 1)).1, { code := (v.countsRequest (clear == 1)).2, body := v.ln.counters.bytes }) :=
  if_pos h

theorem LaneView.countsRequest_read : v.countsRequest false = (v, .done) := by
  unfold LaneView.countsRequest
  cases v.ln.set.counterMode <;> rfl

theorem LaneView.countsRequest_auto (h : v.ln.set.counterMode = .auto) : v.countsRequest true = (v, .clamped) := by
  unfold LaneView.countsRequest
  rw [h]

theorem LaneView.countsRequest_zero (h : v.ln.set.counterMode = .manual) (hzero : v.ln.counters = .zero) :
    v.countsRequest true = (v, .done) := by
  have hsame : v.setCounters .zero = v := by rw [← hzero]; rfl
  unfold LaneView.countsRequest
  rw [h]
  dsimp only
  rw [hsame, LaneView.closeCounters_same rfl]

theorem LaneView.countsRequest_clears (h : v.ln.set.counterMode = .manual) (hne : v.ln.counters ≠ .zero) :
    v.countsRequest true = ((v.setCounters .zero).handOver .counterFull false, .done) := by
  unfold LaneView.countsRequest
  rw [h]
  dsimp only
  rw [LaneView.closeCounters_changed (v := v.setCounters .zero) hne.symm]
  rfl

end

/-- Settles O27: the clear option outside its list, 0, and 1 by mode and counters. -/
theorem countsReadsAndClears : Obligations.CountsReadsAndClears := by
  unfold Obligations.CountsReadsAndClears
  intro s tag lane clear l hs hl
  refine ⟨fun h => ?badField, fun h => ?read, fun h hmode => ?auto, fun h hmode hzero => ?zero,
    fun h hmode hne => ?clears⟩
  case badField =>
    refine congrArg Host.Outcome.next
      (s.request_lane_same .counts tag hs (s.serve_counts lane clear) rfl hl (a := .only .badField) ?_)
    exact if_neg (by rw [isChoice_eq_false h]; exact Bool.false_ne_true)
  all_goals subst h
  case read =>
    refine congrArg Host.Outcome.next
      (s.request_lane_same .counts tag hs (s.serve_counts lane 0) rfl hl
        (a := { code := .done, body := s.lanes[l].counters.bytes }) ?_)
    rw [LaneView.serveCounts_listed rfl, show ((0 : Byte) == 1) = false from rfl, LaneView.countsRequest_read]
    rfl
  case auto =>
    refine congrArg Host.Outcome.next
      (s.request_lane_same .counts tag hs (s.serve_counts lane 1) rfl hl
        (a := { code := .clamped, body := s.lanes[l].counters.bytes }) ?_)
    rw [LaneView.serveCounts_listed rfl, show ((1 : Byte) == 1) = true from rfl, LaneView.countsRequest_auto hmode]
    rfl
  case zero =>
    refine congrArg Host.Outcome.next
      (s.request_lane_same .counts tag hs (s.serve_counts lane 1) rfl hl
        (a := { code := .done, body := s.lanes[l].counters.bytes }) ?_)
    rw [LaneView.serveCounts_listed rfl, show ((1 : Byte) == 1) = true from rfl, LaneView.countsRequest_zero hmode hzero]
    rfl
  case clears =>
    have hln := State.put_lanes_self (s.answered 0x8E tag .done s.lanes[l].counters.bytes) l
      (((s.view l).setCounters .zero).handOver .counterFull false)
    have hreports : ((s.view l).setCounters .zero).ReportsFrom s l := ⟨rfl, rfl, rfl, rfl, rfl, rfl, rfl⟩
    have hfrom : (s.view l).serveCounts 1 =
        (((s.view l).setCounters .zero).handOver .counterFull false,
          { code := .done, body := s.lanes[l].counters.bytes }) := by
      rw [LaneView.serveCounts_listed rfl, show ((1 : Byte) == 1) = true from rfl,
        LaneView.countsRequest_clears hmode hne]
      rfl
    refine ⟨_, congrArg Host.Outcome.next (State.request_answers .counts hs (s.serve_counts lane 1) rfl hl hfrom),
      State.put_quiet (LaneView.handOver_quiet _ _ _), ?_, hreports.monitored .counterFull false (by decide) hln rfl⟩
    rw [State.put_lanes_self]
    exact LaneView.handOver_handedOver ((s.view l).setCounters .zero) .counterFull false

/-! ### The report timer (R143, R144) -/

/-- The view at a report expiry before the event closes: the record offered, the counters zero where it was taken, and the
timer moved on. -/
def LaneView.reported (v : LaneView) (point : Time) : LaneView :=
  { v.offer v.ln.countsRecord with
    ln :=
      { (v.offer v.ln.countsRecord).ln with
        reportTimer := some (after point (v.ln.set.interval * 1000))
        counters := if v.ln.count < 32 then Counters.zero else v.ln.counters } }

theorem LaneView.reportExpiry_due {v : LaneView} {point : Time} (hon : v.ln.on = true)
    (hpoint : v.ln.reportTimer = some point) (hdue : expired v.now (some point) = true) :
    v.reportExpiry = (v.reported point).closeCounters v.ln.counters := by
  have hcounters := (v.offer_frame v.ln.countsRecord).ln.counters
  have htakes : v.takes v.ln.countsRecord = decide (v.ln.count < 32) := v.takes_classB _ rfl
  rw [LaneView.reportExpiry, hpoint]
  dsimp only
  rw [hon, show reached v.now point = true from hdue, htakes]
  unfold LaneView.reported
  by_cases hroom : v.ln.count < 32
  · rw [decide_eq_true hroom, if_pos hroom]
    rfl
  · rw [decide_eq_false hroom, if_neg hroom, ← hcounters]
    rfl

theorem LaneView.closeCounters_quiet (v : LaneView) (before : Counters) :
    (v.closeCounters before).free = v.free ∧ (v.closeCounters before).alarms = v.alarms := by
  by_cases h : v.ln.counters = before
  · rw [LaneView.closeCounters_same h]
    exact ⟨rfl, rfl⟩
  · rw [LaneView.closeCounters_changed h]
    exact v.handOver_quiet .counterFull v.ln.counters.full

/-- The close of an event leaves the other live states, SCANNER_HELD apart. -/
theorem LaneView.closeCounters_others (v : LaneView) (before : Counters) {c : Condition} (hc : c ≠ .counterFull)
    (hheld : c ≠ .scannerHeld) : (v.closeCounters before).ln.liveOf c = v.ln.liveOf c := by
  by_cases h : v.ln.counters = before
  · rw [LaneView.closeCounters_same h]
  · rw [LaneView.closeCounters_changed h, v.handOver_others .counterFull _ hc hheld]

theorem Lane.Appended.closeCounters {d : Lane} {v : LaneView} {r : LaneRecord} (h : d.Appended v.ln r)
    (before : Counters) : d.Appended (v.closeCounters before).ln r := by
  by_cases hc : v.ln.counters = before
  · rw [LaneView.closeCounters_same hc]
    exact h
  · rw [LaneView.closeCounters_changed hc]
    exact h.handOver _ _

theorem LaneView.reported_quiet (v : LaneView) (point : Time) (before : Counters) :
    ((v.reported point).closeCounters before).free = v.free ∧
      ((v.reported point).closeCounters before).alarms = v.alarms := by
  obtain ⟨hfree, halarms⟩ := v.offer_quiet v.ln.countsRecord rfl
  obtain ⟨hf, ha⟩ := (v.reported point).closeCounters_quiet before
  exact ⟨hf.trans hfree, ha.trans halarms⟩

/-- The live states at the close of a report expiry. -/
theorem LaneView.reported_live (v : LaneView) (point : Time) {c : Condition} (hc : c ≠ .scannerHeld) :
    (v.reported point).ln.liveOf c = v.ln.liveOf c := (v.offer_frame v.ln.countsRecord).ln.live c hc

/-- The counters change at a report expiry exactly when the record was taken and one of them was not zero. -/
theorem LaneView.reported_counters (v : LaneView) (point : Time) :
    (v.reported point).ln.counters ≠ v.ln.counters ↔ v.ln.count < 32 ∧ v.ln.counters ≠ .zero := by
  show (if v.ln.count < 32 then Counters.zero else v.ln.counters) ≠ v.ln.counters ↔ _
  by_cases h : v.ln.count < 32
  · rw [if_pos h]
    exact ⟨fun hne => ⟨h, hne.symm⟩, fun hne => hne.2.symm⟩
  · rw [if_neg h]
    exact ⟨fun hne => absurd rfl hne, fun hne => absurd hne.1 h⟩

/-- COUNTER_FULL falls at a report expiry of an ON lane that changed a counter. -/
theorem LaneView.reported_full {v : LaneView} (point : Time) (hon : v.ln.on = true) :
    ((v.reported point).closeCounters v.ln.counters).ln.liveOf .counterFull =
      if v.ln.count < 32 ∧ v.ln.counters ≠ .zero then false else v.ln.liveOf .counterFull := by
  have hchanged := v.reported_counters point
  by_cases h : v.ln.count < 32 ∧ v.ln.counters ≠ .zero
  · have hzero : (v.reported point).ln.counters = .zero := if_pos h.1
    have hlane : (v.reported point).ln.on = true :=
      (congrArg (fun p : PowerCtl => decide (p.state = .on)) (v.offer_frame v.ln.countsRecord).ln.power).trans hon
    rw [if_pos h, LaneView.closeCounters_changed (hchanged.mpr h), LaneView.handOver_live _ _ _ (by decide), hzero, hlane]
    rfl
  · rw [if_neg h, LaneView.closeCounters_same (not_not.mp (mt hchanged.mp h)), v.reported_live point (by decide)]

/-- The COUNTS record of a report expiry. -/
theorem LaneView.reported_offered (s : State) (l : LaneId) (point : Time) :
    s.OfferedB (s.put l (((s.view l).reported point).closeCounters s.lanes[l].counters)) l s.lanes[l].countsRecord := by
  have hfrom := s.view_queueFrom l
  have hoffered := hfrom.offeredB (t := s.put l ((s.view l).offer s.lanes[l].countsRecord))
    (b := s.lanes[l].countsRecord) rfl (by rw [State.put_lanes_self]) rfl
  refine ⟨fun hroom => ?taken, fun hfull => ?refused⟩
  case taken =>
    have happended := hoffered.taken hroom
    rw [State.put_lanes_self] at happended ⊢
    exact Lane.Appended.closeCounters (v := (s.view l).reported point) happended _
  case refused =>
    have hsame : ((s.view l).reported point).ln.counters = s.lanes[l].counters := if_neg (Nat.not_lt.mpr hfull)
    have hrefused := hoffered.refused hfull
    rw [LaneView.closeCounters_same hsame]
    rw [State.put_lanes_self] at hrefused ⊢
    exact hrefused

/-- Settles O28: the report expiry by whether a counter changed, then the window expiry. -/
theorem reportAndWindowExpiries : Obligations.ReportAndWindowExpiries := by
  unfold Obligations.ReportAndWindowExpiries
  refine ⟨fun s l point hs hon hpoint hdue => ?report, fun s l hs hdue => ?window⟩
  case report =>
    have hexec : exec (.reportTimerExpiry l) s = _ := State.heard (f := LaneView.reportExpiry) hs rfl
    rw [LaneView.reportExpiry_due (v := s.view l) hon hpoint hdue] at hexec
    have hclosed := ((s.view l).reported point).closeCounters_closed s.lanes[l].counters
    have hid := ((s.view l).offer_frame s.lanes[l].countsRecord).id
    have hnow := ((s.view l).offer_frame s.lanes[l].countsRecord).now
    refine ⟨_, ((s.view l).offer s.lanes[l].countsRecord).ln, hexec, State.put_quiet ((s.view l).reported_quiet point _),
      (s.view l).offer_offered _ rfl, ?closed, fun c hc hheld => ?others, ?full, ?offered⟩
    case closed =>
      rw [show ((s.view l).reported point).id = l from hid, show ((s.view l).reported point).now = s.timeBase from hnow]
        at hclosed
      rw [State.put_lanes_self]
      exact hclosed
    case others =>
      rw [State.put_lanes_self, LaneView.closeCounters_others _ _ hc hheld]
      exact (s.view l).reported_live point hheld
    case full =>
      rw [State.put_lanes_self]
      exact LaneView.reported_full (v := s.view l) point hon
    case offered => exact LaneView.reported_offered s l point
  case window =>
    exact State.heard_alone hs (f := LaneView.windowExpiry) rfl (if_pos hdue)

end Sys2Proof.Machine
end

section
/-!
PROOFS. The start, the insert and the end of a line check (R162, R168 to R170).
-/

namespace Sys2Proof.Machine

/-! ### Start and insert (R162, R168) -/

section

variable {v : LaneView}

theorem LaneView.serveCheck_start (duration : Byte) :
    v.serveCheck 0 duration = whenOn v (codeOnly (v.checkStart duration)) := rfl

theorem LaneView.serveCheck_stop (duration : Byte) : v.serveCheck 1 duration = whenOn v (codeOnly v.checkStop) := rfl

theorem LaneView.serveCheck_insert (duration : Byte) : v.serveCheck 2 duration = whenOn v (codeOnly v.checkInsert) := rfl

theorem LaneView.checkStart_busy (h : v.ln.checking = true) (duration : Byte) : v.checkStart duration = (v, .busy) :=
  if_pos h

theorem LaneView.checkStart_idle (h : v.ln.checking = false) (duration : Byte) :
    v.checkStart duration =
      (v.startCheck (checkDuration duration), if checkDuration duration = duration.toNat then .done else .clamped) :=
  if_neg (by rw [h]; exact Bool.false_ne_true)

theorem LaneView.checkInsert_idle (h : v.ln.checking = false) : v.checkInsert = (v, .notReady) := by
  rw [LaneView.checkInsert, h]
  rfl

theorem LaneView.checkInsert_pending (h : v.ln.checking = true) (hi : v.ln.checker.insert = true) :
    v.checkInsert = (v, .busy) := by
  rw [LaneView.checkInsert, h, hi]
  rfl

theorem LaneView.checkInsert_marks (h : v.ln.checking = true) (hi : v.ln.checker.insert = false) :
    v.checkInsert = (v.setChecker { v.ln.checker with insert := true }, .done) := by
  rw [LaneView.checkInsert, h, hi]
  rfl

theorem LaneView.checkStop_idle (h : v.ln.checking = false) : v.checkStop = (v, .notReady) :=
  if_neg (by rw [h]; exact Bool.false_ne_true)

theorem LaneView.checkStop_running (h : v.ln.checking = true) : v.checkStop = (v.endCheck .host, .done) := if_pos h

end

/-- The duration of 1 to 60 seconds is taken as sent (R162). -/
theorem checkDuration_eq_iff (b : Byte) : checkDuration b = b.toNat ↔ 1 ≤ b.toNat ∧ b.toNat ≤ 60 := by
  unfold checkDuration clamp
  split
  · omega
  · split <;> omega

theorem nextSequence_seed : nextSequence Config.checkSeed = 0x22AC#16 := by decide

/-- The checker with the first byte of the sequence on the line (R162, R163). -/
theorem LineChecker.started_beginByte (c : LineChecker) (now : Time) (seconds : Nat) (l : LaneId) :
    (c.started now seconds).beginByte l =
      { state := .hunt, timer := some (after now (seconds * 1000)), reg := 0x22AC#16, sent := [0xAC#8], run := 0
        history := [], insert := false, bytesSent := 1, bytesMatched := 0, mismatches := 0, lockLosses := 0
        sending := some 0xAC#8, freeIdx := c.freeIdx } := by
  unfold LineChecker.beginByte
  rw [show (c.started now seconds).reg = Config.checkSeed from rfl, nextSequence_seed]
  rfl

/-- Settles O29: the lane that is not ON, the running check, and the idle checker. -/
theorem checkStartsAndInserts : Obligations.CheckStartsAndInserts := by
  unfold Obligations.CheckStartsAndInserts
  intro s tag lane duration l hs hl
  have hsame (action d : Byte) {code : ReplyCode} (h : (s.view l).serveCheck action d = (s.view l, .only code)) :
      s.request tag (.check lane action d) = s.answered 0x8F tag code [] :=
    s.request_lane_same .check tag hs (s.serve_check lane action d) rfl hl (a := .only code) h
  refine ⟨fun hoff => ⟨?startOff, ?insertOff⟩, fun hon hch => ⟨?startBusy, fun hi => ?insertBusy, fun hi => ?marks⟩,
    fun hon hch => ⟨?insertIdle, ?start⟩⟩
  case startOff => exact congrArg Host.Outcome.next (hsame 0 duration (whenOn_off hoff _))
  case insertOff => exact congrArg Host.Outcome.next (hsame 2 0 (whenOn_off hoff _))
  case startBusy =>
    refine congrArg Host.Outcome.next (hsame 0 duration ?_)
    rw [LaneView.serveCheck_start, whenOn_on hon, LaneView.checkStart_busy hch]
    rfl
  case insertBusy =>
    refine congrArg Host.Outcome.next (hsame 2 0 ?_)
    rw [LaneView.serveCheck_insert, whenOn_on hon, LaneView.checkInsert_pending hch hi]
    rfl
  case marks =>
    refine congrArg Host.Outcome.next (State.request_alone .check hs (s.serve_check lane 2 0) rfl hl ?_)
    rw [LaneView.serveCheck_insert, whenOn_on hon, LaneView.checkInsert_marks hch hi]
    rfl
  case insertIdle =>
    refine congrArg Host.Outcome.next (hsame 2 0 ?_)
    rw [LaneView.serveCheck_insert, whenOn_on hon, LaneView.checkInsert_idle hch]
    rfl
  case start =>
    refine congrArg Host.Outcome.next (State.request_alone .check hs (s.serve_check lane 0 duration) rfl hl ?_)
    rw [LaneView.serveCheck_start, whenOn_on hon, LaneView.checkStart_idle hch, LaneView.startCheck,
      LineChecker.started_beginByte]
    simp only [checkDuration_eq_iff]
    rfl

/-! ### The end of a check (R169, R170) -/

/-- While a check runs the commands on the line stay, whatever the disable-reason set does (R60). -/
theorem LaneView.setReasons_checking {v : LaneView} (h : v.ln.checking = true) (r : Reasons) :
    v.setReasons r = v.setPort { v.ln.port with reasons := r } := by
  unfold LaneView.setReasons
  rw [h, Bool.not_true, Bool.and_false, Bool.false_and]
  rfl

theorem LaneView.evalFlow_checking (n : Nat) {v : LaneView} (h : v.ln.checking = true) :
    (v.evalFlow n).ln.port.cmds = v.ln.port.cmds := by
  induction n generalizing v with
  | zero => rfl
  | succ n ih =>
    unfold LaneView.evalFlow
    split
    · rfl
    · next flow _ =>
      rw [LaneView.setReasons_checking h]
      dsimp only
      split
      · split
        · split
          · exact ih h
          · rw [LaneView.refuse_eq]
            rfl
        · rfl
      · rfl

theorem LaneView.offer_checking {v : LaneView} (h : v.ln.checking = true) (b : RecordBody) :
    (v.offer b).ln.port.cmds = v.ln.port.cmds := by
  unfold LaneView.offer
  split
  · exact LaneView.evalFlow_checking flowFuel (v := v.enqueue b) h
  · rw [LaneView.refuse_eq]
    rfl

theorem LaneView.closeCheck_cmds {v : LaneView} (h : v.ln.checking = true) (cause : EndCause) :
    (v.closeCheck cause).ln.port.cmds = v.ln.port.cmds :=
  LaneView.offer_checking (v := v.setChecker v.ln.checker.cut) h _

theorem LaneView.endCheck_quiet (v : LaneView) (cause : EndCause) :
    (v.endCheck cause).free = v.free ∧ (v.endCheck cause).alarms = v.alarms :=
  (v.setChecker v.ln.checker.cut).offer_quiet (v.ln.checker.report cause) rfl

/-- A port without commands states the desired enable state as it takes back its line (R60). -/
theorem ScannerPort.takeBack_cmds {p : ScannerPort} (h : p.cmds = []) :
    p.takeBack.cmds = [.enable p.takeBack.reasons.desired] ∧
      p.takeBack.lineState = some p.takeBack.reasons.desired := by
  simp only [ScannerPort.takeBack, ScannerPort.restate, ScannerPort.appendEnable, ScannerPort.append, h, withdrawWaiting,
    makeRoom, List.nil_append, reduceIte, beginCommand, and_self]

/-- The end of a check leaves everything but the port and the checker to the record it offers. -/
theorem LaneView.endCheck_frame (v : LaneView) (cause : EndCause) :
    Lane.OfferFrame
      { v.ln with
        port := { v.ln.port with rx := Receiver.reset, reasons := { v.ln.port.reasons with check := false } }
        checker := v.ln.checker.cut.ended } (v.endCheck cause).ln :=
  have hframe := ((v.setChecker v.ln.checker.cut).offer_frame (v.ln.checker.report cause)).ln
  { hframe with rx := rfl, check := rfl, checker := congrArg LineChecker.ended hframe.checker }

/-- Everything the end of a running check does (R170). -/
theorem State.checkEnded {s t : State} {l : LaneId} {cause : EndCause} (hch : s.lanes[l].checking = true)
    (hcmds : s.lanes[l].port.cmds = []) (hln : t.lanes[l] = ((s.view l).endCheck cause).ln)
    (hattn : t.attn = ((s.view l).endCheck cause).attn) : s.CheckEnded t l cause := by
  have hcut : ((s.view l).setChecker s.lanes[l].checker.cut).QueueFrom s l := ⟨rfl, rfl, rfl, rfl⟩
  have hempty : ((s.view l).closeCheck cause).ln.port.cmds = [] :=
    (LaneView.closeCheck_cmds (v := s.view l) hch cause).trans hcmds
  obtain ⟨hhead, hline⟩ := ScannerPort.takeBack_cmds hempty
  obtain ⟨m, hoffered, hclosed⟩ := (s.view l).closeCheck_closes cause
  have hrestated :
      Lane.Restated
        { ((s.view l).closeCheck cause).ln with
          port :=
            { ((s.view l).closeCheck cause).ln.port with
              rx := Receiver.reset
              reasons := { ((s.view l).closeCheck cause).ln.port.reasons with check := false } } }
        ((s.view l).endCheck cause).ln :=
    LaneView.restate_restated
      (((s.view l).closeCheck cause).setPort
        { ((s.view l).closeCheck cause).ln.port with
          rx := Receiver.reset
          reasons := { ((s.view l).closeCheck cause).ln.port.reasons with check := false } })
  rw [hclosed] at hrestated
  refine ⟨hcut.offeredB rfl (by rw [hln]; rfl) hattn, ?lane, ?cmds, ?line, m, hoffered, ?restated⟩
  all_goals rw [hln]
  case lane => exact (s.view l).endCheck_frame cause
  case cmds => exact hhead
  case line => exact hline
  case restated => exact hrestated

/-- Settles O30: CHECK stop without a running check, CHECK stop, and the check timer. -/
theorem checkEndsAtStopOrExpiry : Obligations.CheckEndsAtStopOrExpiry := by
  unfold Obligations.CheckEndsAtStopOrExpiry
  refine ⟨fun s tag lane l hs hl h => ?idle, fun s tag lane l hs hl hon hch hcmds => ?stop,
    fun s l hs hon hch hcmds hdue => ?expiry⟩
  case idle =>
    refine congrArg Host.Outcome.next
      (s.request_lane_same .check tag hs (s.serve_check lane 1 0) rfl hl (a := .only .notReady) ?_)
    rw [LaneView.serveCheck_stop]
    by_cases hon : s.lanes[l].on = true
    · rw [whenOn_on hon, LaneView.checkStop_idle (h.resolve_left ((Bool.not_eq_false _).mpr hon))]
      rfl
    · exact whenOn_off (Bool.eq_false_iff.mpr hon) _
  case stop =>
    have hfrom : (s.view l).serveCheck 1 0 = ((s.view l).endCheck .host, .only .done) := by
      rw [LaneView.serveCheck_stop, whenOn_on hon, LaneView.checkStop_running hch]
      rfl
    exact ⟨_, congrArg Host.Outcome.next (State.request_answers .check hs (s.serve_check lane 1 0) rfl hl hfrom),
      State.put_quiet ((s.view l).endCheck_quiet .host), State.checkEnded hch hcmds (State.put_lanes_self _ _ _) rfl⟩
  case expiry =>
    have hdone : (s.view l).checkTimerExpiry = (s.view l).endCheck .time := by
      unfold LaneView.checkTimerExpiry
      simp only [State.view_ln, hon, hch, Bool.and_self, Bool.true_and]
      exact if_pos hdue
    have hexec : exec (.checkTimerExpiry l) s = _ := State.heard (f := LaneView.checkTimerExpiry) hs rfl
    rw [hdone] at hexec
    exact ⟨_, hexec, State.put_quiet ((s.view l).endCheck_quiet .time), State.checkEnded hch hcmds (State.put_lanes_self _ _ _) rfl⟩

end Sys2Proof.Machine
end

section
/-!
PROOFS. The bytes of a line check: the sequence (R163), the sent window (R164), and the comparison (R165, R166).
-/

namespace Sys2Proof.Machine

/-! ### The sequence (R163) -/

theorem shiftSequence_low (r : BitVec 16) (i : Fin 15) : (shiftSequence r).getLsbD i = r.getLsbD (i.val + 1) := by
  have htop : ∀ (c : Bool) (i : Fin 15), (if c then 0x8000 else 0 : BitVec 16).getLsbD i.val = false := by decide
  rw [shiftSequence, BitVec.getLsbD_or, BitVec.getLsbD_ushiftRight, htop, Bool.or_false, Nat.add_comm]

theorem shiftSequence_top (r : BitVec 16) :
    (shiftSequence r).getLsbD 15 = ((r.getLsbD 0 ^^ r.getLsbD 2) ^^ (r.getLsbD 3 ^^ r.getLsbD 5)) := by
  have htop : ∀ c : Bool, (if c then 0x8000 else 0 : BitVec 16).getLsbD 15 = c := by decide
  have hout : (r >>> 1).getLsbD 15 = false := by
    rw [BitVec.getLsbD_ushiftRight]
    exact BitVec.getLsbD_of_ge r _ (by decide)
  rw [shiftSequence, BitVec.getLsbD_or, hout, htop, Bool.false_or, Bool.xor_assoc]

theorem nextSequence_eq (r : BitVec 16) : nextSequence r = shiftSequence^[8] r := rfl

/-! ### Tallies, the history and the lock (R161, R166) -/

theorem LineChecker.raise_sent {c : LineChecker} (l : LaneId) (h : c.bytesSent ≠ BitVec.allOnes 32) :
    c.raise l .sent = { c with bytesSent := c.bytesSent + 1 } := by
  rw [LineChecker.raise, raiseTally, nextFree, if_neg h, if_neg h]

theorem LineChecker.raise_matched {c : LineChecker} (l : LaneId) (h : c.bytesMatched ≠ BitVec.allOnes 32) :
    c.raise l .matched = { c with bytesMatched := c.bytesMatched + 1 } := by
  rw [LineChecker.raise, raiseTally, nextFree, if_neg h, if_neg h]

theorem LineChecker.raise_mismatch {c : LineChecker} (l : LaneId) (h : c.mismatches ≠ BitVec.allOnes 32) :
    c.raise l .mismatch = { c with mismatches := c.mismatches + 1 } := by
  rw [LineChecker.raise, raiseTally, nextFree, if_neg h, if_neg h]

theorem recent_eq {history : List Bool} (h : history.length ≤ 16) (m : Bool) :
    recent history m = (history ++ [m]).drop (history.length - 15) := by
  unfold recent
  by_cases hfull : Config.windowSize ≤ history.length
  · have h16 : 16 ≤ history.length := hfull
    rw [if_pos hfull, show history.length - 15 = 1 by omega, List.drop_append_of_le_length (by omega), List.drop_one]
  · have h16 : ¬16 ≤ history.length := hfull
    rw [if_neg hfull, show history.length - 15 = 0 by omega, List.drop_zero]

/-- An outcome enters the history of the last 16, and four mismatches among them lose the lock (R166). -/
theorem LineChecker.enterOutcome_eq {c : LineChecker} (h : c.history.length ≤ 16) (m : Bool) :
    c.enterOutcome m =
      if 4 ≤ ((c.history ++ [m]).drop (c.history.length - 15)).count false then
        { c with state := .hunt, lockLosses := bump16 c.lockLosses, run := 0, history := [] }
      else { c with history := (c.history ++ [m]).drop (c.history.length - 15) } := by
  have hcount (xs : List Bool) : (xs.filter fun m => !m).length = xs.count false := by
    rw [List.count, List.countP_eq_length_filter]
    congr 2
    funext m
    cases m <;> rfl
  unfold LineChecker.enterOutcome
  dsimp only
  rw [hcount, recent_eq h]
  rfl

/-! ### What a check byte leaves unchanged -/

/-- What no comparison touches, and no loss of a sent byte: the sequence, the byte on the line, and the timer. -/
structure LineChecker.Sending (c d : LineChecker) : Prop where
  reg : d.reg = c.reg
  bytesSent : d.bytesSent = c.bytesSent
  sending : d.sending = c.sending
  insert : d.insert = c.insert
  timer : d.timer = c.timer

namespace LineChecker.Sending

variable {c d e : LineChecker}

theorem refl (c : LineChecker) : c.Sending c := ⟨rfl, rfl, rfl, rfl, rfl⟩

theorem trans (h : c.Sending d) (k : d.Sending e) : c.Sending e :=
  ⟨k.reg.trans h.reg, k.bytesSent.trans h.bytesSent, k.sending.trans h.sending, k.insert.trans h.insert,
    k.timer.trans h.timer⟩

theorem enterOutcome (c : LineChecker) (m : Bool) : c.Sending (c.enterOutcome m) := by
  unfold LineChecker.enterOutcome
  dsimp only
  split <;> exact ⟨rfl, rfl, rfl, rfl, rfl⟩

theorem raise (c : LineChecker) (l : LaneId) (tally : Tally) (h : tally ≠ .sent) : c.Sending (c.raise l tally) := by
  cases tally
  case sent => exact absurd rfl h
  all_goals exact ⟨rfl, rfl, rfl, rfl, rfl⟩

/-- An outcome is counted and enters the history, entries having left the window (R166). -/
theorem counted (c : LineChecker) (rest : List Byte) (l : LaneId) (m : Bool) (tally : Tally) (h : tally ≠ .sent) :
    c.Sending ((LineChecker.raise { c with sent := rest } l tally).enterOutcome m) := by
  have htaken : c.Sending { c with sent := rest } := ⟨rfl, rfl, rfl, rfl, rfl⟩
  exact (htaken.trans (raise _ l tally h)).trans (enterOutcome _ m)

theorem compareLocked (c : LineChecker) (l : LaneId) (b : Byte) : c.Sending (c.compareLocked l b) := by
  unfold LineChecker.compareLocked
  split
  · exact counted c c.sent l false .mismatch (by decide)
  · dsimp only
    split
    · exact counted c _ l true .matched (by decide)
    · exact counted c _ l false .mismatch (by decide)

theorem lockAtEight (c : LineChecker) : c.Sending c.lockAtEight := by
  unfold LineChecker.lockAtEight
  split <;> exact ⟨rfl, rfl, rfl, rfl, rfl⟩

theorem search (c : LineChecker) (l : LaneId) (b : Byte) : c.Sending (c.search l b) := by
  unfold LineChecker.search
  split <;> exact ⟨rfl, rfl, rfl, rfl, rfl⟩

theorem follow (c : LineChecker) (l : LaneId) (b : Byte) : c.Sending (c.follow l b) := by
  unfold LineChecker.follow
  split
  · exact ⟨rfl, rfl, rfl, rfl, rfl⟩
  · split <;> exact ⟨rfl, rfl, rfl, rfl, rfl⟩

theorem compare (c : LineChecker) (l : LaneId) (b : Byte) : c.Sending (c.compare l b) := by
  unfold LineChecker.compare
  split
  · exact refl c
  · split
    · exact (search c l b).trans (lockAtEight _)
    · exact (follow c l b).trans (lockAtEight _)
  · exact compareLocked c l b

end LineChecker.Sending

/-- The loss of a sent byte matches none (R164). -/
theorem LineChecker.discardOldest_matched (c : LineChecker) (l : LaneId) :
    (c.discardOldest l).bytesMatched = c.bytesMatched := by
  unfold LineChecker.discardOldest LineChecker.enterOutcome
  dsimp only
  split
  · split <;> rfl
  · rfl

theorem LineChecker.discardOldest_sending (c : LineChecker) (l : LaneId) : c.Sending (c.discardOldest l) := by
  unfold LineChecker.discardOldest
  dsimp only
  split
  · exact .counted c _ l false .mismatch (by decide)
  · exact ⟨rfl, rfl, rfl, rfl, rfl⟩

theorem LineChecker.join_frame (c : LineChecker) (l : LaneId) (b : Byte) :
    (c.join l b).reg = c.reg ∧ (c.join l b).bytesMatched = c.bytesMatched := by
  unfold LineChecker.join
  dsimp only
  split
  · exact ⟨rfl, rfl⟩
  · exact ⟨(c.discardOldest_sending l).reg, c.discardOldest_matched l⟩

/-- The beginning of a byte moves the sequence on, matches nothing and takes a pending insert (R163). -/
theorem LineChecker.beginByte_frame (c : LineChecker) (l : LaneId) :
    (c.beginByte l).reg = nextSequence c.reg ∧ (c.beginByte l).bytesMatched = c.bytesMatched ∧
      (c.beginByte l).insert = false := by
  obtain ⟨hreg, hmatched⟩ :=
    (LineChecker.raise { c with reg := nextSequence c.reg } l .sent).join_frame l ((nextSequence c.reg).setWidth 8)
  exact ⟨hreg, hmatched, rfl⟩

/-! ### The sent window (R164) -/

section

variable {c : LineChecker} (l : LaneId) (b : Byte)

theorem LineChecker.join_room (h : c.sent.length < 16) : c.join l b = { c with sent := c.sent ++ [b] } := by
  unfold LineChecker.join
  rw [if_pos (show c.sent.length < Config.windowSize from h)]

theorem LineChecker.join_full (h : c.sent.length = 16) :
    c.join l b = { c.discardOldest l with sent := (c.discardOldest l).sent ++ [b] } := by
  unfold LineChecker.join
  rw [if_neg (show ¬c.sent.length < Config.windowSize by rw [h]; decide)]

theorem LineChecker.discardOldest_hunt (h : c.state = .hunt) :
    c.discardOldest l = { c with sent := c.sent.tail } := by
  unfold LineChecker.discardOldest
  rw [if_neg (by rw [h]; decide)]

theorem LineChecker.discardOldest_locked (h : c.state = .locked) (hmis : c.mismatches ≠ BitVec.allOnes 32)
    (hhist : c.history.length ≤ 16) :
    c.discardOldest l =
      if 4 ≤ ((c.history ++ [false]).drop (c.history.length - 15)).count false then
        { c with
          sent := c.sent.tail, mismatches := c.mismatches + 1, state := .hunt, lockLosses := bump16 c.lockLosses, run := 0
          history := [] }
      else
        { c with
          sent := c.sent.tail, mismatches := c.mismatches + 1
          history := (c.history ++ [false]).drop (c.history.length - 15) } := by
  unfold LineChecker.discardOldest
  rw [if_pos h, LineChecker.raise_mismatch (c := { c with sent := c.sent.tail }) l hmis]
  exact LineChecker.enterOutcome_eq (c := { c with sent := c.sent.tail, mismatches := c.mismatches + 1 }) hhist false

end

/-- The checker whose sequence has moved on by a byte that is counted as sent and has not joined the window yet. -/
def LineChecker.shifted (c : LineChecker) : LineChecker :=
  { c with reg := nextSequence c.reg, bytesSent := c.bytesSent + 1 }

theorem LineChecker.beginByte_eq {c : LineChecker} (l : LaneId) (h : c.bytesSent ≠ BitVec.allOnes 32) :
    c.beginByte l =
      { c.shifted.join l ((nextSequence c.reg).setWidth 8) with
        sending :=
          some (if c.insert then (nextSequence c.reg).setWidth 8 ^^^ 0xFF else (nextSequence c.reg).setWidth 8)
        insert := false } := by
  unfold LineChecker.beginByte
  dsimp only
  rw [LineChecker.raise_sent (c := { c with reg := nextSequence c.reg }) l h]
  rfl

theorem LaneView.checkByteSent_eq {v : LaneView} (hon : v.ln.on = true) (hch : v.ln.checking = true) :
    v.checkByteSent = v.setChecker (v.ln.checker.beginByte v.id) := by
  rw [LaneView.checkByteSent, hon, hch]
  rfl

theorem exec_checkByteSent {s : State} {l : LaneId} (hs : s.held = false) (hon : s.lanes[l].on = true)
    (hch : s.lanes[l].checking = true) :
    exec (.checkByteSent l) s =
      .next (s.withLaneAs l { s.lanes[l] with checker := s.lanes[l].checker.beginByte l }) :=
  State.heard_alone (f := LaneView.checkByteSent) hs rfl (LaneView.checkByteSent_eq (v := s.view l) hon hch)

/-! ### The comparison (R165, R166) -/

/-- A byte returning during a check is compared; a break character is not (R43, R60). -/
theorem LaneView.srxByte_compare {v : LaneView} (rules : Vector CodeRule 16) {b : Byte} {e : Bool} (hon : v.ln.on = true)
    (hch : v.ln.checking = true) (h : isBreakCharacter b e = false) :
    v.srxByte rules b e = v.setChecker (v.ln.checker.compare v.id b) := by
  rw [v.srxByte_byte rules b e hon h, if_pos hch]

theorem LaneView.srxByte_ignored {v : LaneView} (rules : Vector CodeRule 16) {b : Byte} {e : Bool}
    (hch : v.ln.checking = true) (h : isBreakCharacter b e = true) : v.srxByte rules b e = v := by
  rw [v.srxByte_break rules b e h, LaneView.breakCharacter, hch, Bool.not_true, Bool.and_false, Bool.false_and]
  rfl

/-- Settles O31: the sequence, what any check byte leaves unchanged, and the sent window. -/
theorem checkBytesAreMadeSentAndRemembered : Obligations.CheckBytesAreMadeSentAndRemembered := by
  unfold Obligations.CheckBytesAreMadeSentAndRemembered
  refine ⟨⟨shiftSequence_low, shiftSequence_top, nextSequence_eq⟩,
    fun s l b e hs hon hch => ⟨?sent, ?arrived⟩,
    fun s l c reg b hs hon hch hsent hmis hhist hreg hb hc => ⟨fun hroom => ?room, fun hfull hstate => ?hunt,
      fun hfull hstate history hhistory => ?locked⟩⟩
  case sent =>
    have hexec : exec (.checkByteSent l) s = _ := State.heard (f := LaneView.checkByteSent) hs rfl
    obtain ⟨hreg, hmatched, hinsert⟩ := s.lanes[l].checker.beginByte_frame l
    rw [LaneView.checkByteSent_eq (v := s.view l) hon hch] at hexec
    refine ⟨_, hexec, State.put_quiet ⟨rfl, rfl⟩, ?_⟩
    rw [State.put_lanes_self]
    exact ⟨rfl, hreg, hmatched, hinsert⟩
  case arrived =>
    have hexec : exec (.checkByteArrival l b e) s = _ := State.heard (f := fun v => v.srxByte s.rules b e) hs rfl
    cases hbreak : isBreakCharacter b e with
    | true =>
      rw [LaneView.srxByte_ignored (v := s.view l) s.rules hch hbreak] at hexec
      refine ⟨_, hexec, State.put_quiet ⟨rfl, rfl⟩, ?_⟩
      rw [State.put_lanes_self]
      exact ⟨rfl, rfl, rfl, rfl, rfl, rfl⟩
    | false =>
      obtain ⟨hreg, hsent, hsending, hinsert, htimer⟩ := LineChecker.Sending.compare s.lanes[l].checker l b
      rw [LaneView.srxByte_compare (v := s.view l) s.rules hon hch hbreak] at hexec
      refine ⟨_, hexec, State.put_quiet ⟨rfl, rfl⟩, ?_⟩
      rw [State.put_lanes_self]
      exact ⟨rfl, hreg, hsent, hsending, hinsert, htimer⟩
  all_goals
    subst hc hb hreg
    rw [exec_checkByteSent hs hon hch, LineChecker.beginByte_eq l hsent]
  case room =>
    rw [LineChecker.join_room (c := s.lanes[l].checker.shifted) l _ hroom]
    rfl
  case hunt =>
    rw [LineChecker.join_full (c := s.lanes[l].checker.shifted) l _ hfull,
      LineChecker.discardOldest_hunt (c := s.lanes[l].checker.shifted) l hstate]
    rfl
  case locked =>
    subst hhistory
    rw [LineChecker.join_full (c := s.lanes[l].checker.shifted) l _ hfull,
      LineChecker.discardOldest_locked (c := s.lanes[l].checker.shifted) l hstate hmis hhist]
    unfold LineChecker.shifted
    dsimp only
    split <;> rfl

/-! ### One comparison, state by state -/

section

variable {c : LineChecker} (l : LaneId) {b : Byte}

theorem LineChecker.compare_hunt (h : c.state = .hunt) :
    c.compare l b = (if c.run = 0 then c.search l b else c.follow l b).lockAtEight := by
  rw [LineChecker.compare, h]

theorem LineChecker.compare_locked (h : c.state = .locked) : c.compare l b = c.compareLocked l b := by
  rw [LineChecker.compare, h]

theorem LineChecker.lockAtEight_below (h : c.run < 8) : c.lockAtEight = c :=
  if_neg (Nat.not_le.mpr h)

theorem LineChecker.lockAtEight_full (h : 8 ≤ c.run) :
    c.lockAtEight = { c with state := .locked, run := 0, history := [] } := if_pos h

/-- No entry of the window is the byte. -/
theorem LineChecker.search_absent (h : b ∉ c.sent) : c.search l b = c := by
  have hnil : c.sent.dropWhile (fun e => decide (e ≠ b)) = [] := by
    rw [List.dropWhile_eq_nil_iff]
    intro e he
    exact decide_eq_true fun heq => h (heq ▸ he)
  rw [LineChecker.search, hnil]

/-- The first equal entry leaves with everything before it. -/
theorem LineChecker.search_found {before rest : List Byte} (hmatched : c.bytesMatched ≠ BitVec.allOnes 32)
    (hsent : c.sent = before ++ b :: rest) (h : b ∉ before) :
    c.search l b = { c with sent := rest, run := 1, bytesMatched := c.bytesMatched + 1 } := by
  have hdrop : c.sent.dropWhile (fun e => decide (e ≠ b)) = b :: rest := by
    rw [hsent, List.dropWhile_append_of_pos, List.dropWhile_cons_of_neg]
    · rw [decide_eq_true_iff]
      exact not_not.mpr rfl
    · exact fun e he => decide_eq_true fun heq => h (heq ▸ he)
  rw [LineChecker.search, hdrop]
  exact LineChecker.raise_matched (c := { c with sent := rest, run := 1 }) l hmatched

theorem LineChecker.follow_mismatch (h : c.sent.head? ≠ some b) : c.follow l b = { c with run := 0 } := by
  unfold LineChecker.follow
  split
  · rfl
  · next e rest hsent =>
    rw [hsent] at h
    exact if_neg fun heq => h (by rw [heq]; rfl)

theorem LineChecker.follow_match {rest : List Byte} (hmatched : c.bytesMatched ≠ BitVec.allOnes 32)
    (hsent : c.sent = b :: rest) :
    c.follow l b = { c with sent := rest, run := c.run + 1, bytesMatched := c.bytesMatched + 1 } := by
  rw [LineChecker.follow, hsent]
  dsimp only
  rw [if_pos rfl]
  exact LineChecker.raise_matched (c := { c with sent := rest, run := c.run + 1 }) l hmatched

/-- In LOCKED the oldest entry leaves, and the outcome is counted and enters the history. -/
theorem LineChecker.compareLocked_eq (hmatched : c.bytesMatched ≠ BitVec.allOnes 32)
    (hmis : c.mismatches ≠ BitVec.allOnes 32) :
    c.compareLocked l b =
      if c.sent.head? = some b then
        LineChecker.enterOutcome { c with sent := c.sent.tail, bytesMatched := c.bytesMatched + 1 } true
      else LineChecker.enterOutcome { c with sent := c.sent.tail, mismatches := c.mismatches + 1 } false := by
  unfold LineChecker.compareLocked
  split
  · next hsent =>
    have hsame : { c with sent := c.sent.tail, mismatches := c.mismatches + 1 } =
        { c with mismatches := c.mismatches + 1 } := by
      rw [hsent]
      cases c
      cases hsent
      rfl
    rw [LineChecker.raise_mismatch l hmis, if_neg (by rw [hsent, List.head?_nil]; exact nofun), hsame]
  · next e rest hsent =>
    dsimp only
    rw [LineChecker.raise_matched (c := { c with sent := rest }) l hmatched,
      LineChecker.raise_mismatch (c := { c with sent := rest }) l hmis, hsent]
    by_cases heq : b = e
    · rw [if_pos heq, if_pos (by rw [heq]; rfl)]
      rfl
    · rw [if_neg heq, if_neg (by
        intro h
        exact heq (Option.some.inj h).symm)]
      rfl

end

theorem exec_checkByteArrival {s : State} {l : LaneId} {b : Byte} {e : Bool} (hs : s.held = false)
    (hon : s.lanes[l].on = true) (hch : s.lanes[l].checking = true) (h : isBreakCharacter b e = false) :
    exec (.checkByteArrival l b e) s =
      .next (s.withLaneAs l { s.lanes[l] with checker := s.lanes[l].checker.compare l b }) :=
  State.heard_alone (f := fun v => v.srxByte s.rules b e) hs rfl
    (LaneView.srxByte_compare (v := s.view l) s.rules hon hch h)

theorem Lane.checking_of_state {d : Lane} {x : CheckState} (h : d.checker.state = x) (hx : x ≠ .idle) :
    d.checking = true := by
  rw [Lane.checking, h]
  exact decide_eq_true hx

/-- Settles O32: the break character, then HUNT without and with a run, and LOCKED. -/
theorem checkByteIsCompared : Obligations.CheckByteIsCompared := by
  unfold Obligations.CheckByteIsCompared
  intro s l b e c hs hon hc hmatched hmis hhist
  subst hc
  refine ⟨rfl, fun hidle hb he => ?character, fun hbyte => ?compared⟩
  case character =>
    subst hb he
    exact State.heard_same (f := fun v => v.srxByte s.rules 0x00 true) rfl
      (LaneView.srxByte_ignored (v := s.view l) s.rules (decide_eq_true hidle) rfl)
  case compared =>
    have hchar : isBreakCharacter b e = false := by
      obtain h | h := hbyte
      · rw [isBreakCharacter, decide_eq_false h, Bool.and_false]
      · rw [isBreakCharacter, h, Bool.false_and]
    have hexec {x : CheckState} (h : s.lanes[l].checker.state = x) (hx : x ≠ .idle) :=
      exec_checkByteArrival hs hon (Lane.checking_of_state h hx) hchar
    refine ⟨fun h hrun habsent => ?absent, fun before rest h hrun hsent habsent => ?found,
      fun h hrun h8 hhead => ?mismatch, fun rest h hrun h8 hsent => ?follows, fun d h hd => ?locked⟩
    case absent =>
      rw [hexec h (by decide), LineChecker.compare_hunt l h, if_pos hrun, LineChecker.search_absent l habsent,
        LineChecker.lockAtEight_below (by omega)]
      exact congrArg Host.Outcome.next (s.put_view l)
    case found =>
      rw [hexec h (by decide), LineChecker.compare_hunt l h, if_pos hrun,
        LineChecker.search_found l hmatched hsent habsent, LineChecker.lockAtEight_below (show 1 < 8 by decide)]
    case mismatch =>
      rw [hexec h (by decide), LineChecker.compare_hunt l h, if_neg hrun, LineChecker.follow_mismatch l hhead,
        LineChecker.lockAtEight_below (show 0 < 8 by decide)]
    case follows =>
      rw [hexec h (by decide), LineChecker.compare_hunt l h, if_neg hrun, LineChecker.follow_match l hmatched hsent]
      by_cases h7 : s.lanes[l].checker.run = 7
      · rw [if_pos h7, LineChecker.lockAtEight_full (show 8 ≤ s.lanes[l].checker.run + 1 by omega)]
      · rw [if_neg h7, LineChecker.lockAtEight_below (show s.lanes[l].checker.run + 1 < 8 by omega)]
    case locked =>
      rw [hexec h (by decide), LineChecker.compare_locked l h, LineChecker.compareLocked_eq l hmatched hmis]
      subst hd
      by_cases hhead : s.lanes[l].checker.sent.head? = some b
      · rw [if_pos hhead, if_pos hhead, LineChecker.enterOutcome_eq (by exact hhist)]
      · rw [if_neg hhead, if_neg hhead, LineChecker.enterOutcome_eq (by exact hhist)]

end Sys2Proof.Machine
end

section
/-!
PROOFS. The scanner receiver: bytes that carry a frame forward (R45 to R47), and the events that abort one (R46, R48, R49).
-/

namespace Sys2Proof.Machine

/-! ### A byte reaches the receiver (R43, R60) -/

/-- A byte of an ON lane without a line check that is no break character. -/
theorem exec_scannerByte {s : State} {l : LaneId} {b : Byte} {e : Bool} (hs : s.held = false) (hon : s.lanes[l].on = true)
    (hch : s.lanes[l].checking = false) (h : isBreakCharacter b e = false) :
    exec (.scannerByteArrival l b e) s = .next (s.put l ((s.view l).receiveByte s.rules b e)) := by
  rw [State.heard (f := fun v => v.srxByte s.rules b e) hs rfl, (s.view l).srxByte_byte s.rules b e hon h,
    if_neg (show ¬(s.view l).ln.checking = true from (Bool.not_eq_true _).mpr hch)]

section

variable {v : LaneView} {b : Byte}

theorem LaneView.receiveByte_idle (rules : Vector CodeRule 16) (hbreak : v.ln.port.rx.breakPending = false)
    (h : v.ln.port.rx.state = .idle) (e : Bool) :
    v.receiveByte rules b e = if !e && decide (b = soh) then v.startFrame else v := by
  rw [LaneView.receiveByte, hbreak, h]
  rfl

theorem LaneView.receiveByte_inFrame (rules : Vector CodeRule 16) (hbreak : v.ln.port.rx.breakPending = false)
    (h : v.ln.port.rx.state = .inFrame) (e : Bool) :
    v.receiveByte rules b e =
      if e then v.abortFrame else if b = soh then v.abortFrame.startFrame else v.byteInFrame b := by
  rw [LaneView.receiveByte, hbreak, h]
  rfl

theorem LaneView.receiveByte_awaitBcc (rules : Vector CodeRule 16) (hbreak : v.ln.port.rx.breakPending = false)
    (h : v.ln.port.rx.state = .awaitBcc) (e : Bool) :
    v.receiveByte rules b e = if e then v.abortFrame else v.byteAsBcc rules b := by
  rw [LaneView.receiveByte, hbreak, h]
  rfl

/-- The class byte (R47). -/
theorem LaneView.byteInFrame_class {c : CodeClass} (h : v.ln.port.rx.cls = none) (hb : CodeClass.ofByte b = some c) :
    v.byteInFrame b = v.setRx { v.ln.port.rx with cls := some c, gap := v.gapPoint } := by
  unfold LaneView.byteInFrame
  dsimp only
  rw [h]
  dsimp only
  rw [hb]

theorem LaneView.byteInFrame_noClass (h : v.ln.port.rx.cls = none) (hb : CodeClass.ofByte b = none) :
    v.byteInFrame b = v.abortFrame := by
  unfold LaneView.byteInFrame
  dsimp only
  rw [h]
  dsimp only
  rw [hb]

/-- A byte behind the class byte (R46, R47). -/
theorem LaneView.byteInFrame_data {c : CodeClass} (h : v.ln.port.rx.cls = some c) :
    v.byteInFrame b =
      if b = etb then
        if v.ln.port.rx.chars = [] then v.abortFrame
        else v.setRx { v.ln.port.rx with state := .awaitBcc, gap := v.gapPoint }
      else if c.admits b then
        if v.ln.port.rx.chars.length < 48 then
          v.setRx { v.ln.port.rx with chars := v.ln.port.rx.chars ++ [b], gap := v.gapPoint }
        else v.abortFrame
      else v.abortFrame := by
  rw [LaneView.byteInFrame]
  dsimp only
  rw [h]
  rfl

end

theorem CodeClass.numeric_admits (b : Byte) :
    CodeClass.numeric.admits b = true ↔ 0x30 ≤ b.toNat ∧ b.toNat ≤ 0x39 := by
  rw [CodeClass.admits, isDigit, Bool.and_eq_true, decide_eq_true_iff, decide_eq_true_iff]

theorem CodeClass.alpha_admits (b : Byte) : CodeClass.alpha.admits b = true ↔ 0x20 ≤ b.toNat ∧ b.toNat ≤ 0x7E := by
  rw [CodeClass.admits, isPrintable, Bool.and_eq_true, decide_eq_true_iff, decide_eq_true_iff]

/-- Neither control byte is a character of a class. -/
theorem CodeClass.ne_control {c : CodeClass} {b : Byte} (h : c.admits b = true) : b ≠ soh ∧ b ≠ etb := by
  cases c <;> constructor <;> rintro rfl <;> exact absurd h (by decide)

section

variable {v : LaneView} {b : Byte} {c : CodeClass} (rules : Vector CodeRule 16)
  (hbreak : v.ln.port.rx.breakPending = false)

include hbreak

theorem LaneView.receiveByte_soh (h : v.ln.port.rx.state = .idle) :
    v.receiveByte rules 0x01 false = v.startFrame := by
  rw [LaneView.receiveByte_idle rules hbreak h]
  rfl

theorem LaneView.receiveByte_class (h : v.ln.port.rx.state = .inFrame) (hcls : v.ln.port.rx.cls = none)
    (hb : CodeClass.ofByte b = some c) (hsoh : b ≠ soh) :
    v.receiveByte rules b false = v.setRx { v.ln.port.rx with cls := some c, gap := v.gapPoint } := by
  rw [LaneView.receiveByte_inFrame rules hbreak h, if_neg Bool.false_ne_true, if_neg hsoh,
    LaneView.byteInFrame_class hcls hb]

theorem LaneView.receiveByte_char (h : v.ln.port.rx.state = .inFrame) (hcls : v.ln.port.rx.cls = some c)
    (hb : c.admits b = true) (hlen : v.ln.port.rx.chars.length < 48) :
    v.receiveByte rules b false =
      v.setRx { v.ln.port.rx with chars := v.ln.port.rx.chars ++ [b], gap := v.gapPoint } := by
  obtain ⟨hsoh, hetb⟩ := CodeClass.ne_control hb
  rw [LaneView.receiveByte_inFrame rules hbreak h, if_neg Bool.false_ne_true, if_neg hsoh,
    LaneView.byteInFrame_data hcls, if_neg hetb, if_pos hb, if_pos hlen]

theorem LaneView.receiveByte_etb (h : v.ln.port.rx.state = .inFrame) (hcls : v.ln.port.rx.cls = some c)
    (hchars : v.ln.port.rx.chars ≠ []) :
    v.receiveByte rules 0x17 false = v.setRx { v.ln.port.rx with state := .awaitBcc, gap := v.gapPoint } := by
  rw [LaneView.receiveByte_inFrame rules hbreak h, if_neg Bool.false_ne_true, if_neg (by decide),
    LaneView.byteInFrame_data hcls, if_pos (show (0x17 : Byte) = etb from rfl), if_neg hchars]

end

theorem isBreakCharacter_noError (b : Byte) : isBreakCharacter b false = false := rfl

/-- Settles O33: what an IDLE receiver ignores, and each byte that carries a frame forward. -/
theorem frameBytesAreAssembled : Obligations.FrameBytesAreAssembled := by
  unfold Obligations.FrameBytesAreAssembled
  intro s l b rx gap hs hon hch hrx hbreak hgap
  subst hrx hgap
  refine ⟨fun e hidle hb => ?ignored, fun rx' h => ?forward⟩
  case ignored =>
    by_cases hchar : isBreakCharacter b e = true
    · refine State.heard_same (f := fun v => v.srxByte s.rules b e) rfl ?_
      rw [LaneView.srxByte_break _ _ _ _ hchar, LaneView.breakCharacter]
      exact if_neg (by rw [show decide ((s.view l).ln.port.rx.state ≠ .idle) = false from
        decide_eq_false (not_not.mpr hidle), Bool.and_false]; exact Bool.false_ne_true)
    · rw [exec_scannerByte hs hon hch (Bool.eq_false_iff.mpr hchar), LaneView.receiveByte_idle _ hbreak hidle, if_neg]
      · exact congrArg Host.Outcome.next (s.put_view l)
      · rw [Bool.and_eq_true, Bool.not_eq_true', decide_eq_true_iff]
        rintro ⟨he, rfl⟩
        exact hb.elim (fun hne => hne rfl) fun ht => absurd (he.symm.trans ht) Bool.false_ne_true
  case forward =>
    rw [exec_scannerByte hs hon hch (isBreakCharacter_noError b)]
    obtain ⟨hstate, rfl, rfl⟩ | ⟨hstate, hcls, rfl, rfl⟩ | ⟨hstate, hcls, rfl, rfl⟩ | ⟨hstate, hcls, hlo, hhi, hlen, rfl⟩ |
      ⟨hstate, hcls, hlo, hhi, hlen, rfl⟩ | ⟨hstate, hcls, rfl, hchars, rfl⟩ := h
    · rw [LaneView.receiveByte_soh s.rules hbreak hstate]
      rfl
    · rw [LaneView.receiveByte_class (c := .numeric) s.rules hbreak hstate hcls rfl (by decide)]
      rfl
    · rw [LaneView.receiveByte_class (c := .alpha) s.rules hbreak hstate hcls rfl (by decide)]
      rfl
    · rw [LaneView.receiveByte_char s.rules hbreak hstate hcls ((CodeClass.numeric_admits b).mpr ⟨hlo, hhi⟩) hlen]
      rfl
    · rw [LaneView.receiveByte_char s.rules hbreak hstate hcls ((CodeClass.alpha_admits b).mpr ⟨hlo, hhi⟩) hlen]
      rfl
    · obtain ⟨c, hc⟩ := Option.isSome_iff_exists.mp hcls
      rw [LaneView.receiveByte_etb s.rules hbreak hstate hc hchars]
      rfl

end Sys2Proof.Machine
end

section
/-!
PROOFS. Frames that are aborted (R46, R48, R51): the FRAME_ERR count, the 'B' of the confirm tones, and COUNTER_FULL.
-/

namespace Sys2Proof.Machine

/-! ### The receive assembly apart

What offering a record and handing a live state on do to a lane says nothing of its receive assembly, its counters or its
duplicate filter. -/

/-- The lane with another receive assembly, other counters and another duplicate filter. -/
def Lane.refit (d : Lane) (rx : Receiver) (counters : Counters) (filter : DupFilter) : Lane :=
  { d with port := { d.port with rx := rx }, counters := counters, filter := filter }

section

variable {d e : Lane} (rx : Receiver) (counters : Counters) (filter : DupFilter)

theorem Lane.OfferFrame.refit (h : d.OfferFrame e) :
    (d.refit rx counters filter).OfferFrame (e.refit rx counters filter) :=
  { h with rx := rfl, counters := rfl, filter := rfl }

theorem Lane.Redirected.refit {r : Reasons} (h : d.Redirected e r) :
    (d.refit rx counters filter).Redirected (e.refit rx counters filter) r :=
  { h with frame := congrArg (fun x : Lane => x.refit rx counters filter) h.frame }

variable {l : LaneId} {now : Time}

theorem Lane.FlowEvaluated.refit (h : d.FlowEvaluated e l now) :
    (d.refit rx counters filter).FlowEvaluated (e.refit rx counters filter) l now := by
  refine ⟨h.frame.refit rx counters filter, fun hsame => by rw [h.still hsame], fun hr => ?_, h.held, h.queue⟩
  obtain ⟨x, hx, hport⟩ := h.port hr
  exact ⟨x.refit rx counters filter, hx.refit rx counters filter,
    congrArg (fun p : ScannerPort => { p with rx := rx }) hport⟩

theorem Lane.Offered.refit {b : RecordBody} (h : d.Offered e l now b) :
    (d.refit rx counters filter).Offered (e.refit rx counters filter) l now b :=
  ⟨fun hroom => (h.taken hroom).refit rx counters filter, fun hfull => by rw [h.refused hfull]; rfl⟩

theorem Lane.HandedOver.refit {c : Condition} {live : Bool} (h : d.HandedOver e l now c live) :
    (d.refit rx counters filter).HandedOver (e.refit rx counters filter) l now c live :=
  ⟨fun hsame => by rw [h.same hsame], fun hon hne hr => by rw [h.unreported hon hne hr]; rfl,
    fun hon hne hr => (h.reported hon hne hr).refit rx counters filter⟩

/-- The close of an event reads the counters, so they stay. -/
theorem Lane.Closed.refit {before : Counters} (h : d.Closed e l now before) :
    (d.refit rx d.counters filter).Closed (e.refit rx d.counters filter) l now before :=
  ⟨fun hsame => by rw [h.same hsame], fun hne => (h.changed hne).refit rx d.counters filter⟩

end

/-! ### The abort (R46) -/

/-- The view of a frame aborted, the receiver going on as `rx`, before the event closes. -/
def LaneView.aborting (v : LaneView) (rx : Receiver) : LaneView :=
  { v with
    ln :=
      Lane.toned
        { v.ln with
          port := { v.ln.port with rx := rx }
          counters := { v.ln.counters with frameErr := bump16 v.ln.counters.frameErr } }
        (some .bad) }

theorem LaneView.abortFrame_eq {v : LaneView} (hon : v.ln.on = true) (hch : v.ln.checking = false) :
    v.abortFrame = (v.aborting .reset).closeCounters v.ln.counters := by
  rw [LaneView.abortFrame, LaneView.confirmTone_toned ((v.setRx .reset).raise .frameErr) .bad hon hch]
  rfl

theorem LaneView.abortFrame_gapPoint {v : LaneView} (hon : v.ln.on = true) (hch : v.ln.checking = false) :
    v.abortFrame.gapPoint = v.gapPoint := by
  have hframe := (v.aborting .reset).closeCounters_frame v.ln.counters
  rw [← LaneView.abortFrame_eq hon hch] at hframe
  have hcfg : (v.aborting .reset).ln.cfg = v.ln.cfg := by
    unfold LaneView.aborting Lane.toned
    dsimp only
    split <;> rfl
  obtain h | h := hframe
  · rw [h, LaneView.gapPoint, hcfg]
    rfl
  · rw [LaneView.gapPoint, h.now, h.ln.cfg, LaneView.gapPoint, ← hcfg]
    rfl

/-- A tone changes the command queue at most. -/
theorem Lane.toned_port (d : Lane) (t : Option Tone) :
    ∃ cmds, d.toned t = { d with port := { d.port with cmds := cmds } } := by
  unfold Lane.toned
  cases t with
  | none => exact ⟨d.port.cmds, rfl⟩
  | some x =>
    dsimp only
    split
    · exact ⟨_, rfl⟩
    · exact ⟨d.port.cmds, rfl⟩

theorem Lane.toned_counters (d : Lane) (t : Option Tone) : (d.toned t).counters = d.counters := by
  obtain ⟨cmds, h⟩ := d.toned_port t
  rw [h]

/-- A tone and the receive assembly do not touch each other. -/
theorem Lane.toned_refit (d : Lane) (t : Option Tone) (rx : Receiver) (counters : Counters) (filter : DupFilter) :
    (d.toned t).refit rx counters filter = (d.refit rx counters filter).toned t := by
  unfold Lane.toned
  cases t with
  | none => rfl
  | some x =>
    dsimp only
    by_cases h : d.set.confirmTones = true
    · rw [if_pos h]
      exact (if_pos h).symm
    · rw [if_neg h]
      exact (if_neg h).symm

/-- The live states apart, the close of an event changes what an offered record may change. -/
theorem LaneView.closeCounters_offerFrame (v : LaneView) (before : Counters) :
    Lane.OfferFrame { v.ln with live := (v.closeCounters before).ln.live } (v.closeCounters before).ln := by
  obtain h | h := v.closeCounters_frame before
  · rw [h]
    exact .refl _
  · exact { h.ln with live := fun _ _ => rfl }

section

variable {s : State} {l : LaneId}

theorem LaneView.aborting_reportsFrom (s : State) (l : LaneId) (rx : Receiver) :
    ((s.view l).aborting rx).ReportsFrom s l := by
  obtain ⟨cmds, hcmds⟩ := Lane.toned_port
    { s.lanes[l] with
      port := { s.lanes[l].port with rx := rx }
      counters := { s.lanes[l].counters with frameErr := bump16 s.lanes[l].counters.frameErr } } (some .bad)
  unfold LaneView.aborting
  rw [State.view_ln, hcmds]
  exact ⟨rfl, rfl, rfl, rfl, rfl, rfl, rfl⟩

/-- A frame in assembly aborted, the receiver going on IDLE. -/
theorem State.frameAborted (hon : s.lanes[l].on = true) (hch : s.lanes[l].checking = false) :
    s.FrameAborted (s.put l (s.view l).abortFrame) l .reset := by
  rw [LaneView.abortFrame_eq (v := s.view l) hon hch]
  have hreports := LaneView.aborting_reportsFrom s l .reset
  have hquiet := ((s.view l).aborting .reset).closeCounters_quiet s.lanes[l].counters
  have hframe := ((s.view l).aborting .reset).closeCounters_offerFrame s.lanes[l].counters
  have hclosed := ((s.view l).aborting .reset).closeCounters_closed s.lanes[l].counters
  obtain ⟨cmds, hcmds⟩ := Lane.toned_port
    { s.lanes[l] with
      port := { s.lanes[l].port with rx := Receiver.reset }
      counters := { s.lanes[l].counters with frameErr := bump16 s.lanes[l].counters.frameErr } } (some .bad)
  have hln : ((s.view l).aborting .reset).ln = _ := hcmds
  refine ⟨State.put_quiet hquiet, ?lane, fun c hc hheld => ?others, fun hlt => ?full, ?closed⟩
  case lane =>
    rw [State.put_lanes_self]
    rw [hln] at hframe
    exact { hframe with }
  case others =>
    rw [State.put_lanes_self, LaneView.closeCounters_others _ _ hc hheld, hln]
    rfl
  case full =>
    have hbump : bump16 s.lanes[l].counters.frameErr = s.lanes[l].counters.frameErr + 1 := if_pos hlt
    have hcounters : ((s.view l).aborting .reset).ln.counters =
        { s.lanes[l].counters with frameErr := s.lanes[l].counters.frameErr + 1 } := by
      rw [hln, ← hbump]
    have hchanged : ((s.view l).aborting .reset).ln.counters ≠ (s.view l).ln.counters := by
      rw [hcounters]
      intro h
      exact absurd (congrArg Counters.frameErr h) (Nat.succ_ne_self _)
    rw [LaneView.closeCounters_changed hchanged, hcounters]
    exact hreports.monitored .counterFull _ (by decide) (State.put_lanes_self _ _ _) rfl
  case closed =>
    rw [State.put_lanes_self]
    exact hclosed

/-- The live states, the queue and ATTN are all that a monitored condition says of the state it leaves. -/
theorem State.Monitored.congr {s t u : State} {l : LaneId} {c : Condition} {b : Bool} (h : s.Monitored t l c b)
    (hlive : u.lanes[l].live = t.lanes[l].live) (hqueue : u.lanes[l].queue = t.lanes[l].queue)
    (hattn : u.attn = t.attn) : s.Monitored u l c b := by
  have hliveOf (k : Condition) : u.lanes[l].liveOf k = t.lanes[l].liveOf k := by simp only [Lane.liveOf, hlive]
  refine ⟨?_, fun k hk hheld => ?_, fun hon hne hr => ?_, fun hu => ?_⟩
  · rw [hliveOf, h.live]
  · rw [hliveOf, h.others k hk hheld]
  · obtain ⟨htaken, hrefused⟩ := h.reported hon hne hr
    refine ⟨fun hroom => ?_, fun hfull => ?_⟩
    · obtain ⟨more, hmore, hcond⟩ := htaken hroom
      exact ⟨more, by rw [hqueue, hmore], hcond⟩
    · rw [hqueue, hattn]
      exact hrefused hfull
  · rw [State.SameQueue, hqueue, hattn]
    exact h.unreported hu

/-- A frame aborted by an SOH, which starts a new one. -/
theorem State.FrameAborted.restarted {s : State} {l : LaneId} {w : LaneView} (h : s.FrameAborted (s.put l w) l .reset)
    (rx : Receiver) : s.FrameAborted (s.put l (w.setRx rx)) l rx := by
  obtain ⟨hframe, hlane, hothers, hfull, hclosed⟩ := h
  rw [State.put_lanes_self] at hlane hclosed
  have hcounters : w.ln.counters = { s.lanes[l].counters with frameErr := bump16 s.lanes[l].counters.frameErr } :=
    hlane.counters
  refine ⟨State.put_quiet ⟨hframe.poolFree, hframe.alarms⟩, ?lane, fun c hc hheld => ?others, fun hlt => ?full, ?closed⟩
  case lane =>
    rw [State.put_lanes_self]
    exact { hlane with rx := rfl }
  case others =>
    have ho := hothers c hc hheld
    rw [State.put_lanes_self] at ho ⊢
    exact ho
  case full =>
    refine (hfull hlt).congr ?_ ?_ rfl
    all_goals rw [State.put_lanes_self, State.put_lanes_self]; rfl
  case closed =>
    have hrefit := hclosed.refit rx s.lanes[l].filter
    rw [Lane.toned_counters, Lane.toned_refit] at hrefit
    have hw : w.ln.refit rx w.ln.counters w.ln.filter = (w.setRx rx).ln := rfl
    rw [hcounters, show w.ln.filter = s.lanes[l].filter from hlane.filter] at hw
    rw [State.put_lanes_self, ← hw]
    exact hrefit

end

/-! ### The bytes that abort -/

section

variable {v : LaneView} {b : Byte}

/-- A character that the class or the length of the frame does not admit. -/
theorem LaneView.byteInFrame_refused {c : CodeClass} (hcls : v.ln.port.rx.cls = some c) (hetb : b ≠ etb)
    (h : c.admits b = true → 48 ≤ v.ln.port.rx.chars.length) : v.byteInFrame b = v.abortFrame := by
  rw [LaneView.byteInFrame_data hcls, if_neg hetb]
  by_cases hb : c.admits b = true
  · rw [if_pos hb, if_neg (Nat.not_lt.mpr (h hb))]
  · rw [if_neg hb]

theorem LaneView.byteInFrame_broken
    (h :
      (v.ln.port.rx.cls = none ∧ b ≠ 0x4E ∧ b ≠ 0x41) ∨
        (v.ln.port.rx.cls.isSome = true ∧ b = 0x17 ∧ v.ln.port.rx.chars = []) ∨
        (v.ln.port.rx.cls = some .numeric ∧ b ≠ 0x17 ∧
          (b.toNat < 0x30 ∨ 0x39 < b.toNat ∨ 48 ≤ v.ln.port.rx.chars.length)) ∨
        (v.ln.port.rx.cls = some .alpha ∧ b ≠ 0x17 ∧
          (b.toNat < 0x20 ∨ 0x7E < b.toNat ∨ 48 ≤ v.ln.port.rx.chars.length))) :
    v.byteInFrame b = v.abortFrame := by
  obtain ⟨hcls, hn, ha⟩ | ⟨hcls, rfl, hchars⟩ | ⟨hcls, hetb, hbad⟩ | ⟨hcls, hetb, hbad⟩ := h
  · have hb : CodeClass.ofByte b = none := by
      rw [CodeClass.ofByte, if_neg hn, if_neg ha]
    exact LaneView.byteInFrame_noClass hcls hb
  · obtain ⟨c, hc⟩ := Option.isSome_iff_exists.mp hcls
    rw [LaneView.byteInFrame_data hc, if_pos (show (0x17 : Byte) = etb from rfl), if_pos hchars]
  · refine LaneView.byteInFrame_refused hcls hetb fun hadmits => ?_
    obtain ⟨hlo, hhi⟩ := (CodeClass.numeric_admits b).mp hadmits
    omega
  · refine LaneView.byteInFrame_refused hcls hetb fun hadmits => ?_
    obtain ⟨hlo, hhi⟩ := (CodeClass.alpha_admits b).mp hadmits
    omega

theorem LaneView.byteAsBcc_differs {rules : Vector CodeRule 16} {code : Code} (hcode : v.ln.port.rx.code = some code)
    (hb : b ≠ code.bcc) : v.byteAsBcc rules b = v.abortFrame := by
  unfold LaneView.byteAsBcc
  rw [hcode]
  exact if_neg hb

theorem LaneView.gapExpiry_due (hon : v.ln.on = true) (hch : v.ln.checking = false)
    (hrun : v.ln.port.rx.state ≠ .idle) (hbreak : v.ln.port.rx.breakPending = false)
    (hdue : expired v.now v.ln.port.rx.gap = true) : v.gapExpiry = v.abortFrame := by
  rw [LaneView.gapExpiry, hon, hch, hbreak, hdue, decide_eq_true hrun]
  rfl

end

/-- Settles O34: stop-bit errors, SOH, the bytes that carry no frame forward, the BCC that differs, and the gap timer. -/
theorem brokenFramesAreAborted : Obligations.BrokenFramesAreAborted := by
  unfold Obligations.BrokenFramesAreAborted
  intro s l rx hs hon hch hrx hbreak
  subst hrx
  have habort : s.FrameAborted (s.put l (s.view l).abortFrame) l .reset := State.frameAborted hon hch
  have hbyte {b : Byte} (h : (s.view l).receiveByte s.rules b false = (s.view l).abortFrame) :
      exec (.scannerByteArrival l b false) s = .next (s.put l (s.view l).abortFrame) := by
    rw [exec_scannerByte hs hon hch (isBreakCharacter_noError b), h]
  refine ⟨fun hrun b hb => ⟨_, ?stopError, habort⟩, fun hin => ⟨_, ?soh, habort.restarted _⟩,
    fun b hin hsoh hbad => ⟨_, hbyte ?inFrame, habort⟩, fun b cls hbcc hcls hb => ⟨_, hbyte ?bcc, habort⟩,
    fun hrun hdue => ⟨_, ?gap, habort⟩⟩
  case stopError =>
    have hchar : isBreakCharacter b true = false := decide_eq_false hb
    rw [exec_scannerByte hs hon hch hchar]
    cases hstate : s.lanes[l].port.rx.state with
    | idle => exact absurd hstate hrun
    | inFrame => rw [LaneView.receiveByte_inFrame (v := s.view l) s.rules hbreak hstate, if_pos rfl]
    | awaitBcc => rw [LaneView.receiveByte_awaitBcc (v := s.view l) s.rules hbreak hstate, if_pos rfl]
  case soh =>
    rw [exec_scannerByte hs hon hch (isBreakCharacter_noError _),
      LaneView.receiveByte_inFrame (v := s.view l) s.rules hbreak hin, if_neg Bool.false_ne_true,
      if_pos (show (0x01 : Byte) = soh from rfl), LaneView.startFrame,
      LaneView.abortFrame_gapPoint (v := s.view l) hon hch]
    rfl
  case inFrame =>
    rw [LaneView.receiveByte_inFrame (v := s.view l) s.rules hbreak hin, if_neg Bool.false_ne_true,
      if_neg (show b ≠ soh from hsoh)]
    exact LaneView.byteInFrame_broken hbad
  case bcc =>
    rw [LaneView.receiveByte_awaitBcc (v := s.view l) s.rules hbreak hbcc, if_neg Bool.false_ne_true]
    refine LaneView.byteAsBcc_differs (code := { cls := cls, chars := s.lanes[l].port.rx.chars }) ?_ ?_
    · rw [Receiver.code, State.view_ln, hcls]
      rfl
    · cases cls <;> exact hb
  case gap =>
    rw [State.heard (f := LaneView.gapExpiry) hs rfl, LaneView.gapExpiry_due (v := s.view l) hon hch hrun hbreak hdue]

end Sys2Proof.Machine
end

section
/-!
PROOFS. The break detector (R51, R52): a return to mark, the scanner found absent, and its return.
-/

namespace Sys2Proof.Machine

section

variable {v : LaneView}

/-- The view with SRXn back at mark and the break timer set again (R51). -/
def LaneView.backAtMark (v : LaneView) : LaneView :=
  (v.setPins { v.ln.pins with srx := .mark }).setPort { v.ln.port with brk := v.ln.port.brk.watching .mark v.now }

/-- A return to mark that ends a frame left pending (R51). -/
theorem LaneView.srxChange_aborts (hon : v.ln.on = true) (hbreak : v.ln.port.rx.breakPending = true) :
    (v.setPins { v.ln.pins with srx := .mark }).srxChange .mark = v.backAtMark.abortFrame := by
  unfold LaneView.srxChange
  rw [if_pos (show (v.setPins { v.ln.pins with srx := .mark }).ln.on = true from hon)]
  dsimp only
  rw [show (v.setPins { v.ln.pins with srx := .mark }).ln.port.rx.breakPending = true from hbreak]
  rfl

/-- The break timer of an ON lane expires with a level held (R51, R52). -/
theorem LaneView.breakExpiry_due {h : LineHold} (hon : v.ln.on = true)
    (hdue : expired v.now v.ln.port.brk.timer = true) (hheld : v.ln.port.brk.held = some h) :
    v.breakExpiry = if h.level = .space then v.breakAtSpace else v.breakAtMark := by
  rw [LaneView.breakExpiry, hon, hdue, hheld]
  rfl

/-- The break timer expires at mark on a scanner that was there. -/
theorem LaneView.breakAtMark_present (h : v.ln.port.brk.absent = false) :
    v.breakAtMark = v.setPort { v.ln.port with brk := { v.ln.port.brk with timer := none } } :=
  if_neg ((Bool.not_eq_true _).mpr h)

/-- The view of an absent scanner found again, the fall handed to the monitor (R52). -/
def LaneView.foundAgain (v : LaneView) : LaneView :=
  (v.setPort { v.ln.port with brk := { v.ln.port.brk with absent := false, timer := none } }).handOver .scannerAbsent false

theorem LaneView.foundAgain_checking (v : LaneView) : v.foundAgain.ln.checking = v.ln.checking := by
  obtain h | h := LaneView.handOver_frame
    (v.setPort { v.ln.port with brk := { v.ln.port.brk with absent := false, timer := none } }) .scannerAbsent false
  · rw [LaneView.foundAgain, h]
    rfl
  · rw [LaneView.foundAgain, Lane.checking, h.ln.checker]
    rfl

theorem LaneView.breakAtMark_absent (h : v.ln.port.brk.absent = true) :
    v.breakAtMark =
      if v.ln.checking then v.foundAgain else v.foundAgain.setPort v.foundAgain.ln.port.restate := by
  rw [← v.foundAgain_checking]
  exact if_pos h

end

/-- Settles O35: the return to mark, then the break timer at space, at mark, and at mark with the scanner absent. -/
theorem breaksEndFramesAndFindTheScannerAbsent : Obligations.BreaksEndFramesAndFindTheScannerAbsent := by
  unfold Obligations.BreaksEndFramesAndFindTheScannerAbsent
  refine ⟨fun s l hs hon hsrx hbreak hch => ?returns, fun s l h hs hon hdue hheld => ?expiry⟩
  case returns =>
    have hne : s.lanes[l].pins.srx ≠ .mark := by
      rw [hsrx]
      decide
    have hexec := exec_srxLevelChange hs hne
    have haborts := LaneView.srxChange_aborts (v := s.view l) hon hbreak
    have hview : (s.put l (s.view l).backAtMark).view l = (s.view l).backAtMark := by
      rw [State.view_put]
      rfl
    have habort : (s.put l (s.view l).backAtMark).FrameAborted _ l .reset :=
      State.frameAborted (by rw [State.put_lanes_self]; exact hon) (by rw [State.put_lanes_self]; exact hch)
    rw [hview, State.put_put] at habort
    exact ⟨s.put l (s.view l).backAtMark, _, rfl,
      hexec.trans (congrArg (fun w => Host.Outcome.next (s.put l w)) haborts), habort⟩
  case expiry =>
    have hexec : exec (.breakTimerExpiry l) s = _ := State.heard (f := LaneView.breakExpiry) hs rfl
    rw [LaneView.breakExpiry_due (v := s.view l) hon hdue hheld] at hexec
    refine ⟨fun hspace => ?space, fun hmark hthere => ?there, fun hmark habsent => ?absent⟩
    case space =>
      rw [if_pos hspace] at hexec
      have hreports : ((s.view l).setPort
          { s.lanes[l].port with
            rx := .reset
            brk := { s.lanes[l].port.brk with absent := true, timer := none } }).ReportsFrom s l :=
        ⟨rfl, rfl, rfl, rfl, rfl, rfl, rfl⟩
      have hln := State.put_lanes_self s l (s.view l).breakAtSpace
      refine ⟨_, hexec, State.put_quiet (LaneView.handOver_quiet _ _ _), ?_,
        hreports.monitored .scannerAbsent true (by decide) hln rfl⟩
      rw [hln]
      exact LaneView.handOver_handedOver ((s.view l).setPort _) .scannerAbsent true
    case there =>
      rw [if_neg (by rw [hmark]; decide), LaneView.breakAtMark_present (v := s.view l) hthere] at hexec
      exact hexec
    case absent =>
      rw [if_neg (by rw [hmark]; decide), LaneView.breakAtMark_absent (v := s.view l) habsent] at hexec
      have hreports : ((s.view l).setPort
          { s.lanes[l].port with brk := { s.lanes[l].port.brk with absent := false, timer := none } }).ReportsFrom s l :=
        ⟨rfl, rfl, rfl, rfl, rfl, rfl, rfl⟩
      have hmonitored := hreports.monitored .scannerAbsent false (by decide)
        (State.put_lanes_self s l (s.view l).foundAgain) rfl
      have hfound := LaneView.handOver_handedOver
        ((s.view l).setPort
          { s.lanes[l].port with brk := { s.lanes[l].port.brk with absent := false, timer := none } })
        .scannerAbsent false
      have hquiet := LaneView.handOver_quiet
        ((s.view l).setPort
          { s.lanes[l].port with brk := { s.lanes[l].port.brk with absent := false, timer := none } })
        .scannerAbsent false
      cases hch : s.lanes[l].checking with
      | true =>
        rw [if_pos (show (s.view l).ln.checking = true from hch)] at hexec
        exact ⟨_, (s.view l).foundAgain.ln, hexec, State.put_quiet hquiet, hfound,
          fun _ => State.put_lanes_self _ _ _, fun h => absurd h (by decide), hmonitored⟩
      | false =>
        rw [if_neg (show ¬(s.view l).ln.checking = true from (Bool.not_eq_true _).mpr hch)] at hexec
        refine ⟨_, (s.view l).foundAgain.ln, hexec, State.put_quiet hquiet, hfound, fun h => absurd h (by decide),
          fun _ => ?_, hmonitored.congr ?_ ?_ rfl⟩
        · rw [State.put_lanes_self]
          exact (s.view l).foundAgain.restate_restated
        all_goals rw [State.put_lanes_self, State.put_lanes_self]; rfl

end Sys2Proof.Machine
end

section
/-!
PROOFS. A completed frame and the outcome of its code (R49, R67, R78 to R83).
-/

namespace Sys2Proof.Machine

/-! ### The completion (R49) -/

section

variable {v : LaneView}

theorem LaneView.frameCompletion_judged (rules : Vector CodeRule 16) {code : Code} (hon : v.ln.on = true)
    (hch : v.ln.checking = false) (hstate : v.ln.port.rx.state = .awaitBcc) (hbreak : v.ln.port.rx.breakPending = false)
    (hcode : v.ln.port.rx.code = some code) : v.frameCompletion rules = (v.setRx .reset).checkCode rules code := by
  unfold LaneView.frameCompletion
  rw [hcode, hon, hch, hstate, hbreak]
  rfl

theorem LaneView.byteAsBcc_valid (rules : Vector CodeRule 16) {code : Code} (hcode : v.ln.port.rx.code = some code) :
    v.byteAsBcc rules code.bcc = (v.setRx .reset).checkCode rules code := by
  unfold LaneView.byteAsBcc
  rw [hcode]
  exact if_pos rfl

theorem LaneView.checkCode_reject (rules : Vector CodeRule 16) {code : Code} {reason : RejectReason}
    {rule : Option RuleIdx} (h : judge rules v.ln.set code = .reject reason rule) :
    v.checkCode rules code = (v.rejected code reason rule).closeCounters v.ln.counters := by
  unfold LaneView.checkCode
  rw [h]

theorem LaneView.checkCode_duplicate (rules : Vector CodeRule 16) {code : Code} {rule : Option RuleIdx} {tag : Fin 16}
    {checked : Bool} {value : Option ValuePart} (h : judge rules v.ln.set code = .pass rule tag checked value)
    (hdup : v.ln.filter.isDuplicate code = true) :
    v.checkCode rules code = v.suppressed.closeCounters v.ln.counters := by
  unfold LaneView.checkCode
  rw [h]
  dsimp only
  rw [if_pos hdup]

theorem LaneView.checkCode_accept (rules : Vector CodeRule 16) {code : Code} {rule : Option RuleIdx} {tag : Fin 16}
    {checked : Bool} {value : Option ValuePart} (h : judge rules v.ln.set code = .pass rule tag checked value)
    (hdup : v.ln.filter.isDuplicate code = false) :
    v.checkCode rules code = (v.accepted code rule tag checked value).closeCounters v.ln.counters := by
  unfold LaneView.checkCode
  rw [h]
  dsimp only
  rw [if_neg ((Bool.not_eq_true _).mpr hdup)]

end

theorem DupFilter.isDuplicate_iff (f : DupFilter) (code : Code) :
    f.isDuplicate code = true ↔ f.window.isSome = true ∧ f.last = some code := by
  rw [DupFilter.isDuplicate, Bool.and_eq_true, decide_eq_true_iff]

/-- A record with a code is taken exactly while there is room for it (R91, R92). -/
theorem LaneView.takes_code (v : LaneView) {b : RecordBody} (ha : b.classA = true) (hslots : b.slots = 1) :
    v.takes b = true ↔ v.ln.count < 28 ∧ v.ln.queue.held < v.ln.set.quota ∧ 0 < v.free := by
  rw [LaneView.takes, if_pos ha, hslots]
  simp only [Nat.one_ne_zero, decide_false, Bool.false_or, Bool.and_eq_true, decide_eq_true_iff]
  rfl

/-! ### The outcome and the close of its event -/

/-- The lane of a completed frame with the counters and the filter of the outcome (R49, R83). -/
def Lane.completed (d : Lane) (counters : Counters) (filter : DupFilter) : Lane := d.refit .reset counters filter

/-- The view `o` and its lane `flowed` after the outcome's record was taken with its FLOW, or none was, ahead of the
tone. -/
structure State.Recorded (s : State) (l : LaneId) (record : Option RecordBody) (base : Lane) (o : LaneView)
    (flowed : Lane) : Prop where
  id : o.id = l
  now : o.now = s.timeBase
  alarms : o.alarms = s.alarms
  frame : base.OfferFrame flowed
  pool : o.free = if record.isSome then s.poolFree - 1 else s.poolFree
  held : flowed.queue.held = s.lanes[l].queue.held + if record.isSome then 1 else 0
  none : record = none → flowed = base
  some : ∀ b, record = some b →
    s.lanes[l].Appended flowed (s.recordOf l b) ∧ (base.taking l s.timeBase b).FlowEvaluated flowed l s.timeBase

theorem LaneView.handOver_held (v : LaneView) (c : Condition) (live : Bool) :
    (v.handOver c live).ln.queue.held = v.ln.queue.held := by
  obtain h | h | h := v.handOver_cases c live <;> rw [h]
  · rfl
  · cases ht : (v.setLive c live).takes (.condition c live) with
    | true => exact (LaneView.offer_taken _ _ ht).2.2.2
    | false =>
      rw [LaneView.offer_refusedB _ _ ht rfl]
      rfl

theorem LaneView.closeCounters_held (v : LaneView) (before : Counters) :
    (v.closeCounters before).ln.queue.held = v.ln.queue.held := by
  by_cases h : v.ln.counters = before
  · rw [LaneView.closeCounters_same h]
  · rw [LaneView.closeCounters_changed h, LaneView.handOver_held]

theorem LaneView.closeCounters_records (v : LaneView) (before : Counters) :
    ∃ more, (v.closeCounters before).ln.queue.records = v.ln.queue.records ++ more ∧
      ∀ m ∈ more, m.body.isCondition = true := by
  by_cases h : v.ln.counters = before
  · rw [LaneView.closeCounters_same h]
    exact ⟨[], (List.append_nil _).symm, fun _ hm => (List.not_mem_nil hm).elim⟩
  · rw [LaneView.closeCounters_changed h]
    exact v.handOver_records _ _

/-- A tone is none of what an offered record leaves as it was. -/
theorem Lane.OfferFrame.toned {d e : Lane} (h : d.OfferFrame e) (t : Option Tone) : d.OfferFrame (e.toned t) := by
  obtain ⟨cmds, hcmds⟩ := e.toned_port t
  rw [hcmds]
  exact { h with }

theorem Lane.OfferFrame.withLive {d e : Lane} (h : d.OfferFrame e) (live : Vector Bool 8) :
    Lane.OfferFrame { d with live := live } { e with live := live } := { h with live := fun _ _ => rfl }

theorem Lane.toned_live (d : Lane) (t : Option Tone) (c : Condition) : (d.toned t).liveOf c = d.liveOf c := by
  obtain ⟨cmds, h⟩ := d.toned_port t
  rw [h]
  rfl

theorem Lane.toned_queue (d : Lane) (t : Option Tone) : (d.toned t).queue = d.queue := by
  obtain ⟨cmds, h⟩ := d.toned_port t
  rw [h]

theorem State.Recorded.outcome {s : State} {l : LaneId} {record : Option RecordBody} {counters : Counters}
    {filter : DupFilter} {o : LaneView} {flowed : Lane}
    (h : s.Recorded l record (s.lanes[l].completed counters filter) o flowed) (hon : s.lanes[l].on = true)
    (tone : Option Tone) :
    s.FrameOutcome (s.put l (LaneView.closeCounters { o with ln := flowed.toned tone } s.lanes[l].counters)) l record
      counters filter tone := by
  have hcounters : (flowed.toned tone).counters = counters := (flowed.toned_counters tone).trans h.frame.counters
  have hquiet := LaneView.closeCounters_quiet { o with ln := flowed.toned tone } s.lanes[l].counters
  have hclose := LaneView.closeCounters_offerFrame { o with ln := flowed.toned tone } s.lanes[l].counters
  have hlane := h.frame.toned tone
  refine ⟨State.put_frame s l _, hquiet.2.trans h.alarms, ?lane, fun c hc hheld => ?others, fun hne => ?full,
    hquiet.1.trans h.pool, ?held, fun b hb => ?taken, fun hnone => ?untaken, fun base hbase => ?whole⟩
  all_goals rw [State.put_lanes_self]
  case lane => exact (hlane.withLive _).trans hclose
  case others =>
    rw [LaneView.closeCounters_others _ _ hc hheld]
    exact hlane.live c hheld
  case full =>
    have hlaneOn : (flowed.toned tone).on = true :=
      (congrArg (fun p : PowerCtl => decide (p.state = .on)) hlane.power).trans hon
    rw [LaneView.closeCounters_changed (v := { o with ln := flowed.toned tone }) (by rw [hcounters]; exact hne),
      LaneView.handOver_live _ _ _ (by decide), hcounters, hlaneOn]
    rfl
  case held =>
    rw [LaneView.closeCounters_held, Lane.toned_queue]
    exact h.held
  case taken =>
    refine Lane.Appended.closeCounters (v := { o with ln := flowed.toned tone }) ?_ _
    obtain ⟨more, hmore, hcond⟩ := (h.some b hb).1
    exact ⟨more, by rw [Lane.toned_queue, hmore], hcond⟩
  case untaken =>
    obtain ⟨more, hmore, hcond⟩ :=
      LaneView.closeCounters_records { o with ln := flowed.toned tone } s.lanes[l].counters
    refine ⟨more, ?_, hcond⟩
    rw [hmore, Lane.toned_queue, h.none hnone]
    rfl
  case whole =>
    subst hbase
    have hclosed {i : LaneId} {now : Time} (hi : o.id = i) (hnow : o.now = now) :
        (flowed.toned tone).Closed
          (LaneView.closeCounters { o with ln := flowed.toned tone } s.lanes[l].counters).ln i now
          s.lanes[l].counters := by
      subst hi hnow
      exact LaneView.closeCounters_closed { o with ln := flowed.toned tone } s.lanes[l].counters
    exact ⟨flowed, h.none, fun b hb => (h.some b hb).2, hclosed h.id h.now⟩

/-- No record was taken. -/
theorem State.recorded_none (s : State) (l : LaneId) (counters : Counters) (filter : DupFilter) :
    s.Recorded l none (s.lanes[l].completed counters filter) (s.view l) (s.lanes[l].completed counters filter) :=
  ⟨rfl, rfl, rfl, .refl _, rfl, rfl, fun _ => rfl, fun _ h => nomatch h⟩

/-- A record with a code was taken by a view that has counted at most. -/
theorem State.recorded_some {s : State} {l : LaneId} {b : RecordBody} {v : LaneView} {early : Counters}
    (hv : v = { s.view l with ln := s.lanes[l].completed early s.lanes[l].filter }) (hslots : b.slots = 1)
    (htakes : v.takes b = true) (counters : Counters) (filter : DupFilter) :
    s.Recorded l (some b) (s.lanes[l].completed counters filter) (v.offer b)
      ((v.offer b).ln.refit .reset counters filter) := by
  have hframe := v.offer_frame b
  obtain ⟨⟨more, hrecords, hmore⟩, -, hfree, hheld⟩ := v.offer_taken b htakes
  have heval := (v.offer_takes b htakes).refit .reset counters filter
  have hbase := hframe.ln.refit .reset counters filter
  subst hv
  rw [hslots] at hfree hheld
  refine ⟨hframe.id, hframe.now, hframe.alarms, hbase, hfree, hheld, (fun h => nomatch h), fun b' hb' => ?_⟩
  cases hb'
  exact ⟨⟨more, hrecords, fun m hm => (hmore m hm).1⟩, heval⟩

/-! ### The outcomes of a code (R78, R83) -/

theorem Lane.refit_self {e : Lane} {rx : Receiver} {counters : Counters} {filter : DupFilter} (hrx : e.port.rx = rx)
    (hcounters : e.counters = counters) (hfilter : e.filter = filter) : e.refit rx counters filter = e := by
  subst hrx hcounters hfilter
  rfl

theorem LaneView.confirmTone_offered {v : LaneView} (hon : v.ln.on = true) (hch : v.ln.checking = false)
    (b : RecordBody) (t : Tone) :
    (v.offer b).confirmTone t = { v.offer b with ln := (v.offer b).ln.toned (some t) } := by
  have hframe := (v.offer_frame b).ln
  exact (v.offer b).confirmTone_toned t
    ((congrArg (fun p : PowerCtl => decide (p.state = .on)) hframe.power).trans hon)
    ((congrArg (fun c : LineChecker => decide (c.state ≠ .idle)) hframe.checker).trans hch)

section

variable {v : LaneView} {code : Code} {reason : RejectReason} {rule : Option RuleIdx} {tag : Fin 16} {checked : Bool}
  {value : Option ValuePart}

/-- The SCAN record of an accepted code on the lane (R79, R87). -/
abbrev Lane.scanRecord (d : Lane) (code : Code) (rule : Option RuleIdx) (tag : Fin 16) (checked : Bool)
    (value : Option ValuePart) : RecordBody :=
  .scan code rule tag checked (decide (d.keys.keylock = .training)) value

theorem LaneView.rejected_taken (h : (v.raise reason.counter).takes (.reject code reason rule) = true) :
    v.rejected code reason rule = ((v.raise reason.counter).offer (.reject code reason rule)).confirmTone .bad :=
  if_pos h

theorem LaneView.rejected_refused (h : (v.raise reason.counter).takes (.reject code reason rule) = false) :
    v.rejected code reason rule = ((v.raise reason.counter).raise .overrun).confirmTone .bad := by
  have hoffer := (v.raise reason.counter).offer_refusedA _ h rfl
  exact (if_neg ((Bool.not_eq_true _).mpr h)).trans
    (congrArg (fun w : LaneView => (w.raise .overrun).confirmTone .bad) hoffer)

theorem LaneView.accepted_taken (h : v.takes (v.ln.scanRecord code rule tag checked value) = true) :
    v.accepted code rule tag checked value =
      (((v.offer (v.ln.scanRecord code rule tag checked value)).raise .good).setFilterTo code).confirmTone .good :=
  if_pos h

theorem LaneView.accepted_refused (h : v.takes (v.ln.scanRecord code rule tag checked value) = false) :
    v.accepted code rule tag checked value = (v.raise .overrun).confirmTone .bad := by
  have hoffer := v.offer_refusedA _ h rfl
  exact (if_neg ((Bool.not_eq_true _).mpr h)).trans
    (congrArg (fun w : LaneView => (w.raise .overrun).confirmTone .bad) hoffer)

/-- A taken SCAN record counts the code and sets the filter (R79, R83). -/
theorem LaneView.raise_setFilterTo {rx : Receiver} {counters : Counters} {now : Time} {dupWindow : Nat}
    (hrx : v.ln.port.rx = rx) (hcounters : v.ln.counters = counters) (hnow : v.now = now)
    (hwindow : v.ln.set.dupWindow = dupWindow) :
    (v.raise .good).setFilterTo code =
      { v with
        ln := v.ln.refit rx (counters.raise .good) { last := some code, window := windowFrom now dupWindow } } := by
  subst hrx hcounters hnow hwindow
  rfl

end

section

variable {s : State} {l : LaneId} (hon : s.lanes[l].on = true) (hch : s.lanes[l].checking = false)

include hon hch

/-- A rejected code (R82, R83). -/
theorem State.rejected_outcome (code : Code) (reason : RejectReason) (rule : Option RuleIdx) :
    (s.roomForCode l →
      s.FrameOutcome
        (s.put l ((((s.view l).setRx .reset).rejected code reason rule).closeCounters s.lanes[l].counters)) l
        (some (.reject code reason rule)) (s.lanes[l].counters.raise reason.counter) s.lanes[l].filter (some .bad)) ∧
    (¬s.roomForCode l →
      s.FrameOutcome
        (s.put l ((((s.view l).setRx .reset).rejected code reason rule).closeCounters s.lanes[l].counters)) l
        none ((s.lanes[l].counters.raise reason.counter).raise .overrun) s.lanes[l].filter (some .bad)) := by
  have htakes := (((s.view l).setRx .reset).raise reason.counter).takes_code (b := .reject code reason rule) rfl rfl
  refine ⟨fun hroom => ?taken, fun hfull => ?refused⟩
  case taken =>
    have ht := htakes.mpr hroom
    have hrec := State.recorded_some (s := s) (l := l) (v := ((s.view l).setRx .reset).raise reason.counter) rfl rfl ht
      (s.lanes[l].counters.raise reason.counter) s.lanes[l].filter
    have hframe := ((((s.view l).setRx .reset).raise reason.counter).offer_frame (.reject code reason rule)).ln
    have hsame := Lane.refit_self hframe.rx hframe.counters hframe.filter
    rw [LaneView.rejected_taken ht,
      LaneView.confirmTone_offered (v := ((s.view l).setRx .reset).raise reason.counter) hon hch, ← hsame]
    exact hrec.outcome hon (some .bad)
  case refused =>
    have ht := (Bool.not_eq_true _).mp (mt htakes.mp hfull)
    rw [LaneView.rejected_refused ht,
      LaneView.confirmTone_toned ((((s.view l).setRx .reset).raise reason.counter).raise .overrun) .bad hon hch]
    exact (State.recorded_none s l _ _).outcome hon (some .bad)

/-- An accepted code that is not a duplicate (R79, R83). -/
theorem State.accepted_outcome (code : Code) (rule : Option RuleIdx) (tag : Fin 16) (checked : Bool)
    (value : Option ValuePart) :
    (s.roomForCode l →
      s.FrameOutcome
        (s.put l ((((s.view l).setRx .reset).accepted code rule tag checked value).closeCounters s.lanes[l].counters)) l
        (some (.scan code rule tag checked (decide (s.lanes[l].keys.keylock = .training)) value))
        (s.lanes[l].counters.raise .good)
        { last := some code, window := windowFrom s.timeBase s.lanes[l].set.dupWindow } (some .good)) ∧
    (¬s.roomForCode l →
      s.FrameOutcome
        (s.put l ((((s.view l).setRx .reset).accepted code rule tag checked value).closeCounters s.lanes[l].counters)) l
        none (s.lanes[l].counters.raise .overrun) s.lanes[l].filter (some .bad)) := by
  have htakes := ((s.view l).setRx .reset).takes_code (b := s.lanes[l].scanRecord code rule tag checked value) rfl rfl
  refine ⟨fun hroom => ?taken, fun hfull => ?refused⟩
  case taken =>
    have ht := htakes.mpr hroom
    have hframe := ((s.view l).setRx .reset).offer_frame (s.lanes[l].scanRecord code rule tag checked value)
    have hrec := State.recorded_some (s := s) (l := l) (v := (s.view l).setRx .reset) rfl rfl ht
      (s.lanes[l].counters.raise .good)
      { last := some code, window := windowFrom s.timeBase s.lanes[l].set.dupWindow }
    have hset := LaneView.raise_setFilterTo (code := code) hframe.ln.rx hframe.ln.counters hframe.now
      (congrArg LaneSet.dupWindow hframe.ln.set)
    have hlaneOn := (congrArg (fun p : PowerCtl => decide (p.state = .on)) hframe.ln.power).trans hon
    have hlaneCh := (congrArg (fun c : LineChecker => decide (c.state ≠ .idle)) hframe.ln.checker).trans hch
    have haccepted := ((LaneView.accepted_taken ht).trans
      (congrArg (fun w : LaneView => w.confirmTone .good) hset)).trans
      (LaneView.confirmTone_toned _ .good hlaneOn hlaneCh)
    rw [haccepted]
    exact hrec.outcome hon (some .good)
  case refused =>
    have ht := (Bool.not_eq_true _).mp (mt htakes.mp hfull)
    rw [LaneView.accepted_refused ht,
      LaneView.confirmTone_toned (((s.view l).setRx .reset).raise .overrun) .bad hon hch]
    exact (State.recorded_none s l _ _).outcome hon (some .bad)

omit hch in
/-- A duplicate (R78). -/
theorem State.suppressed_outcome :
    s.FrameOutcome (s.put l (((s.view l).setRx .reset).suppressed.closeCounters s.lanes[l].counters)) l none
      (s.lanes[l].counters.raise .duplicate)
      { s.lanes[l].filter with window := windowFrom s.timeBase s.lanes[l].set.dupWindow } none :=
  (State.recorded_none s l _ _).outcome hon none

end

/-- Settles O38: the valid BCC and the completion are one event; then the code by its judgement and the filter. -/
theorem aCompletedFrameMeetsItsOutcome : Obligations.ACompletedFrameMeetsItsOutcome := by
  unfold Obligations.ACompletedFrameMeetsItsOutcome
  intro s l code window hs hon hch hstate hbreak hcls hchars hwindow
  subst hwindow
  have hcode : s.lanes[l].port.rx.code = some code := by
    rw [Receiver.code, hcls, hchars]
    rfl
  have hcomplete := LaneView.frameCompletion_judged (v := s.view l) s.rules hon hch hstate hbreak hcode
  have hexec : exec (.frameCompletion l) s = _ := State.heard (f := fun v => v.frameCompletion s.rules) hs rfl
  rw [hcomplete] at hexec
  refine ⟨?bcc, _, hexec, fun reason rule hjudge => ?reject, fun rule tag checked value hjudge =>
    ⟨fun hrun hlast => ?duplicate, fun hnew => ?accept⟩⟩
  case bcc =>
    rw [exec_scannerByte hs hon hch (isBreakCharacter_noError _),
      LaneView.receiveByte_awaitBcc (v := s.view l) s.rules hbreak hstate, if_neg Bool.false_ne_true, hexec]
    have hvalid := LaneView.byteAsBcc_valid (v := s.view l) s.rules hcode
    obtain ⟨_ | _, chars⟩ := code <;> exact congrArg (fun w => Host.Outcome.next (s.put l w)) hvalid
  case reject =>
    rw [LaneView.checkCode_reject (v := (s.view l).setRx .reset) s.rules hjudge]
    exact State.rejected_outcome hon hch code reason rule
  case duplicate =>
    rw [LaneView.checkCode_duplicate (v := (s.view l).setRx .reset) s.rules hjudge
      ((DupFilter.isDuplicate_iff _ _).mpr ⟨hrun, hlast⟩)]
    exact State.suppressed_outcome hon
  case accept =>
    have hdup : s.lanes[l].filter.isDuplicate code = false := by
      rw [Bool.eq_false_iff, Ne, DupFilter.isDuplicate_iff]
      rintro ⟨hrun, hlast⟩
      obtain hnone | hne := hnew
      · rw [hnone] at hrun
        cases hrun
      · exact hne hlast
    rw [LaneView.checkCode_accept (v := (s.view l).setRx .reset) s.rules hjudge hdup]
    exact State.accepted_outcome hon hch code rule tag checked value

end Sys2Proof.Machine
end

section
/-!
PROOFS. One key: its press, its release and its repeat (R28, R30, R33).
-/

namespace Sys2Proof.Machine

/-- A class A record without a code is taken exactly below 28 records (R91). -/
theorem LaneView.takes_codeless (v : LaneView) {b : RecordBody} (ha : b.classA = true) (hslots : b.slots = 0) :
    v.takes b = true ↔ v.ln.count < 28 := by
  rw [LaneView.takes, if_pos ha, hslots, decide_eq_true rfl, Bool.true_or, Bool.and_true, decide_eq_true_iff]
  rfl

/-- A taken record stands behind what the lane held, and only CONDITION records follow it. -/
theorem LaneView.offer_appended (v : LaneView) {b : RecordBody} (h : v.takes b = true) :
    v.ln.Appended (v.offer b).ln (v.record b) := by
  obtain ⟨⟨more, hrecords, hmore⟩, -⟩ := v.offer_taken b h
  exact ⟨more, hrecords, fun m hm => (hmore m hm).1⟩

/-! ### The key matrix scanner apart

What offering a record does to a lane says nothing of its keys or its duplicate filter. -/

/-- The lane with other keys and another duplicate filter. -/
def Lane.rekey (d : Lane) (keys : KeyScanner) (filter : DupFilter) : Lane := { d with keys := keys, filter := filter }

section

variable {d e : Lane} (keys : KeyScanner) (filter : DupFilter)

theorem Lane.OfferFrame.rekey (h : d.OfferFrame e) : (d.rekey keys filter).OfferFrame (e.rekey keys filter) :=
  { h with keys := rfl, filter := rfl }

theorem Lane.Redirected.rekey {r : Reasons} (h : d.Redirected e r) :
    (d.rekey keys filter).Redirected (e.rekey keys filter) r :=
  { h with frame := congrArg (fun x : Lane => x.rekey keys filter) h.frame }

theorem Lane.FlowEvaluated.rekey {l : LaneId} {now : Time} (h : d.FlowEvaluated e l now) :
    (d.rekey keys filter).FlowEvaluated (e.rekey keys filter) l now := by
  refine ⟨h.frame.rekey keys filter, fun hsame => by rw [h.still hsame], fun hr => ?_, h.held, h.queue⟩
  obtain ⟨x, hx, hport⟩ := h.port hr
  exact ⟨x.rekey keys filter, hx.rekey keys filter, hport⟩

end

theorem Lane.rekey_keys {d : Lane} {keys : KeyScanner} {filter : DupFilter} (h : d.filter = filter) :
    d.rekey keys filter = { d with keys := keys } := by
  subst h
  rfl

/-! ### A press (R28) -/

section

variable {v : LaneView} {p : KeyPos}

theorem LaneView.pressKey_off (hoff : v.ln.keys.keylock = .off) :
    v.pressKey p = v.setKeys (v.ln.keys.setMark p .unreported) := if_pos hoff

theorem LaneView.pressKey_blocked (hon : v.ln.keys.keylock ≠ .off) (hfull : 6 ≤ v.ln.keys.downList.length) :
    v.pressKey p = v.setKeys { v.ln.keys.setMark p .blocked with rollover := true } :=
  (if_neg hon).trans (if_pos hfull)

theorem LaneView.pressKey_refused (hon : v.ln.keys.keylock ≠ .off) (hroom : v.ln.keys.downList.length < 6)
    (hfull : 28 ≤ v.ln.count) :
    v.pressKey p = (v.setKeys (v.ln.keys.setMark p .unreported)).raise .overrun :=
  ((if_neg hon).trans (if_neg (Nat.not_le.mpr hroom))).trans
    (if_neg (mt (v.takes_codeless rfl rfl).mp (Nat.not_lt.mpr hfull)))

theorem LaneView.pressKey_taken (hon : v.ln.keys.keylock ≠ .off) (hroom : v.ln.keys.downList.length < 6)
    (hcount : v.ln.count < 28) : v.pressKey p = (v.offer (.keyDown p v.ln.keys.keylock)).keyTaken p :=
  ((if_neg hon).trans (if_neg (Nat.not_le.mpr hroom))).trans (if_pos ((v.takes_codeless rfl rfl).mpr hcount))

end

/-- The keys with a position joining the down list (R28, R32). -/
def LaneView.joined (v : LaneView) (p : KeyPos) : KeyScanner :=
  { v.ln.keys with downList := v.ln.keys.downList ++ [p], typematic := v.joinTypematic p }

/-- A record offered does not change how a position joins the down list. -/
theorem LaneView.OfferFrame.joined {v w : LaneView} (h : v.OfferFrame w) (p : KeyPos) : w.joined p = v.joined p := by
  rw [LaneView.joined, LaneView.joinTypematic, h.ln.keys, h.ln.keymap, h.ln.cfg, h.now]
  rfl

theorem LaneView.keyTaken_eq (v : LaneView) (p : KeyPos) :
    v.keyTaken p =
      if v.ln.cfg.releaseKey = some p then LaneView.localAttempt { v with ln := v.ln.rekey (v.joined p) .cleared }
      else { v with ln := v.ln.rekey (v.joined p) .cleared } := rfl

/-! ### A release (R30) -/

theorem KeyScanner.stopServing_eq (k : KeyScanner) (p : KeyPos) :
    k.stopServing p = { k with typematic := if k.typematic.map Typematic.pos = some p then none else k.typematic } := by
  unfold KeyScanner.stopServing
  split
  next t ht =>
    by_cases h : t.pos = p
    · simp [ht, h, KeyScanner.stopTypematic]
    · rw [if_neg h, ht, Option.map_some, if_neg (mt Option.some.inj h), ← ht]
  next hnone => rw [hnone, Option.map_none, if_neg nofun, ← hnone]

/-- The keys with a position leaving the down list (R30, R32). -/
def KeyScanner.without (k : KeyScanner) (p : KeyPos) : KeyScanner :=
  { k with
    downList := k.downList.erase p
    typematic := if k.typematic.map Typematic.pos = some p then none else k.typematic }

theorem LaneView.releaseKey_listed {v : LaneView} {p : KeyPos} (h : p ∈ v.ln.keys.downList) :
    v.releaseKey p = (v.setKeys (v.ln.keys.without p)).offer (.keyUp p) :=
  (if_pos h).trans (congrArg (fun k => (v.setKeys k).offer (.keyUp p)) (KeyScanner.stopServing_eq _ p))

/-- Settles O41: the steps of R28 in their order, and R30 by the down list. -/
theorem keysJoinAndLeaveTheDownList : Obligations.KeysJoinAndLeaveTheDownList := by
  unfold Obligations.KeysJoinAndLeaveTheDownList
  refine ⟨fun v p marked hmarked => ?press, fun v p => ⟨fun hout => if_neg hout, fun hin => ?release⟩⟩
  case press =>
    subst hmarked
    refine ⟨LaneView.pressKey_off, LaneView.pressKey_blocked, LaneView.pressKey_refused, fun hon hroom hcount => ?_⟩
    have ht := (v.takes_codeless (b := .keyDown p v.ln.keys.keylock) rfl rfl).mpr hcount
    have hframe := v.offer_frame (.keyDown p v.ln.keys.keylock)
    have happended := v.offer_appended ht
    have hflow := (v.offer_takes _ ht).rekey (v.joined p) .cleared
    obtain ⟨-, -, hfree, -⟩ := v.offer_taken _ ht
    refine ⟨{ v.offer (.keyDown p v.ln.keys.keylock) with
        ln := (v.offer (.keyDown p v.ln.keys.keylock)).ln.rekey (v.joined p) .cleared }, ?_, hframe.now, hframe.id,
      hframe.lockdown, hframe.alarms, hfree, happended, hflow⟩
    rw [LaneView.pressKey_taken hon hroom hcount, LaneView.keyTaken_eq, hframe.joined, hframe.ln.cfg]
  case release =>
    have htakes := (v.setKeys (v.ln.keys.without p)).takes_classB (.keyUp p) rfl
    rw [LaneView.releaseKey_listed hin]
    refine ⟨(v.setKeys (v.ln.keys.without p)).offer_offered (.keyUp p) rfl, fun hroom => ?_, fun hfull => ?_⟩
    · exact (v.setKeys (v.ln.keys.without p)).offer_appended (htakes.trans (decide_eq_true hroom))
    · rw [LaneView.offer_refusedB _ _ (htakes.trans (decide_eq_false (Nat.not_lt.mpr hfull))) rfl]
      rfl

/-! ### A repeat (R33) -/

/-- The keys with the typematic timer set anew (R33). -/
def Lane.repeated (d : Lane) (t : Typematic) : KeyScanner :=
  { d.keys with typematic := some { point := after t.point d.cfg.typPeriod, pos := t.pos } }

/-- A due repeat: the record is offered, and the timer moves on from the expiry just passed. -/
theorem LaneView.typematicExpiry_due {v : LaneView} {t : Typematic} (hon : v.ln.on = true)
    (ht : v.ln.keys.typematic = some t) (hdue : reached v.now t.point = true) :
    v.typematicExpiry =
      { v.offer (.keyRepeat t.pos) with
        ln := (v.offer (.keyRepeat t.pos)).ln.rekey (v.ln.repeated t) v.ln.filter } := by
  have hframe := (v.offer_frame (.keyRepeat t.pos)).ln
  unfold LaneView.typematicExpiry
  rw [ht]
  dsimp only
  rw [hon, hdue, Bool.and_self, if_pos rfl, hframe.keys, Lane.rekey_keys hframe.filter]
  rfl

/-- Settles O42: the repeat is a class A record, taken below 28 records and refused without a trace otherwise. -/
theorem typematicRepeatsTheLastKey : Obligations.TypematicRepeatsTheLastKey := by
  unfold Obligations.TypematicRepeatsTheLastKey
  intro s l t hs hon ht hdue
  have hexec : exec (.typematicExpiry l) s = _ := State.heard (f := LaneView.typematicExpiry) hs rfl
  rw [LaneView.typematicExpiry_due (v := s.view l) hon ht hdue] at hexec
  have htakes := (s.view l).takes_codeless (b := .keyRepeat t.pos) rfl rfl
  have halarms := ((s.view l).offer_frame (.keyRepeat t.pos)).alarms
  refine ⟨_, _, hexec, ?quiet, rfl, fun hroom => ?taken, fun hfull => ?refused⟩
  case quiet =>
    refine State.put_quiet ⟨?_, halarms⟩
    cases hroom : (s.view l).takes (.keyRepeat t.pos) with
    | true =>
      obtain ⟨-, -, hfree, -⟩ := (s.view l).offer_taken _ hroom
      exact hfree
    | false => exact congrArg LaneView.free ((s.view l).offer_refusedA _ hroom rfl)
  case taken =>
    rw [State.put_lanes_self]
    have hroom := htakes.mpr hroom
    exact ⟨(s.view l).offer_appended hroom,
      ((s.view l).offer_takes _ hroom).rekey (s.lanes[l].repeated t) s.lanes[l].filter⟩
  case refused =>
    rw [(s.view l).offer_refusedA _ ((Bool.not_eq_true _).mp (mt htakes.mp (Nat.not_lt.mpr hfull))) rfl]
    refine ⟨State.put_lanes_self .., ?_, rfl⟩
    rw [State.put_lanes_self]
    rfl

end Sys2Proof.Machine
end

section
/-!
PROOFS. An offered record: what the lane queue takes, what FLOW adds behind it, and what it refuses (R91 to R95, R103).
-/

namespace Sys2Proof.Machine

/-! ### The records FLOW adds -/

/-- From `v`, where nothing is lost, to `w` only SCANNER_HELD records joined the queue, one after the other; where it is
full one of them may be lost. -/
def LaneView.HeldReported (v w : LaneView) : Prop :=
  ∃ more : List LaneRecord,
    w.ln.queue.records = v.ln.queue.records ++ more ∧
    w.ln.queue.seq = v.ln.queue.seq + BitVec.ofNat 16 more.length ∧
    (w.ln.queue.loss = 0 ∨ (w.ln.queue.loss = 1 ∧ 32 ≤ w.ln.queue.records.length)) ∧
    ∀ (i : Nat) (m : LaneRecord), more[i]? = some m →
      m.lane = v.id ∧ m.seq = v.ln.queue.seq + BitVec.ofNat 16 i ∧ m.time = v.now ∧ m.lost = 0 ∧
        ∃ live, m.body = .condition .scannerHeld live

section

variable {v w x : LaneView}

theorem LaneView.HeldReported.of_same (hqueue : w.ln.queue = v.ln.queue) (hloss : v.ln.queue.loss = 0) :
    v.HeldReported w := by
  rw [LaneView.HeldReported, hqueue]
  exact ⟨[], (List.append_nil _).symm, (BitVec.add_zero _).symm, .inl hloss, by simp⟩

theorem LaneView.HeldReported.of_refused {live : Bool} (hqueue : x.ln.queue = v.ln.queue)
    (hloss : v.ln.queue.loss = 0) (hfull : 32 ≤ x.ln.count) :
    v.HeldReported (x.refuse (.condition .scannerHeld live)) := by
  have hrefuse : (x.refuse (.condition .scannerHeld live)).ln.queue = { v.ln.queue with loss := 1 } := by
    rw [← hqueue] at hloss ⊢
    exact congrArg (fun n => { x.ln.queue with loss := bump8 n }) hloss
  rw [Lane.count, hqueue] at hfull
  rw [LaneView.HeldReported, hrefuse]
  exact ⟨[], (List.append_nil _).symm, (BitVec.add_zero _).symm, .inr ⟨rfl, hfull⟩, by simp⟩

theorem LaneView.HeldReported.cons {live : Bool} (hqueue : x.ln.queue = v.ln.queue) (hid : x.id = v.id)
    (hnow : x.now = v.now) (hloss : v.ln.queue.loss = 0)
    (h : (x.enqueue (.condition .scannerHeld live)).HeldReported w) : v.HeldReported w := by
  obtain ⟨more, hrecords, hseq, hlost, hmore⟩ := h
  have hsucc (n : Nat) : v.ln.queue.seq + 1 + BitVec.ofNat 16 n = v.ln.queue.seq + BitVec.ofNat 16 (n + 1) := by
    rw [BitVec.ofNat_add, BitVec.add_assoc, BitVec.add_comm 1]
    rfl
  have henqueued : (x.enqueue (.condition .scannerHeld live)).ln.queue.seq = v.ln.queue.seq + 1 :=
    congrArg (fun q : LaneQueue => q.seq + 1) hqueue
  rw [henqueued, hsucc] at hseq
  refine ⟨x.record (.condition .scannerHeld live) :: more, ?records, hseq, hlost, fun i m hm => ?each⟩
  case records =>
    have hfront : (x.enqueue (.condition .scannerHeld live)).ln.queue.records =
        v.ln.queue.records ++ [x.record (.condition .scannerHeld live)] :=
      congrArg (fun q : LaneQueue => q.records ++ [x.record (.condition .scannerHeld live)]) hqueue
    rw [hrecords, hfront, List.append_assoc]
    rfl
  case each =>
    cases i with
    | zero =>
      cases hm
      refine ⟨hid, ?_, hnow, (congrArg LaneQueue.loss hqueue).trans hloss, live, rfl⟩
      exact (congrArg LaneQueue.seq hqueue).trans (BitVec.add_zero _).symm
    | succ i =>
      obtain ⟨hlane, hseqm, htime, hrest⟩ := hmore i m hm
      rw [henqueued, hsucc] at hseqm
      exact ⟨hlane.trans hid, hseqm, htime.trans hnow, hrest⟩

end

/-- Whatever the settings, an evaluation of FLOW adds SCANNER_HELD records alone. -/
theorem LaneView.evalFlow_heldReported (n : Nat) (v : LaneView) (hloss : v.ln.queue.loss = 0) :
    v.HeldReported (v.evalFlow n) := by
  induction n generalizing v with
  | zero => exact .of_same rfl hloss
  | succ n ih =>
    unfold LaneView.evalFlow
    split
    next => exact .of_same rfl hloss
    next flow _ =>
      obtain ⟨hframe, hqueue, -⟩ := v.setFlow_frame flow
      dsimp only
      split
      · split
        · split
          · exact .cons (x := (v.setReasons _).setLive .scannerHeld flow) hqueue hframe.id hframe.now hloss (ih _ rfl)
          · next hfull =>
            rw [LaneView.takes_classB _ _ rfl, decide_eq_true_iff, Nat.not_lt] at hfull
            exact .of_refused hqueue hloss hfull
        · exact .of_same hqueue hloss
      · exact .of_same hqueue hloss

/-! ### Taking and refusing -/

theorem RecordBody.slots_le_one (b : RecordBody) : b.slots ≤ 1 := by cases b <;> simp [RecordBody.slots]

/-- A class A record is taken while there is a place, and a slot where it needs one (R91, R92). -/
theorem LaneView.takes_iff (v : LaneView) (b : RecordBody) :
    v.takes b = true ↔
      if b.classA then
        v.ln.queue.records.length < 28 ∧ (b.slots = 1 → v.ln.queue.held < v.ln.set.quota ∧ 0 < v.free)
      else v.ln.queue.records.length < 32 := by
  by_cases ha : b.classA = true
  · rw [if_pos ha]
    obtain hslots | hslots := Nat.le_one_iff_eq_zero_or_eq_one.mp b.slots_le_one
    · rw [LaneView.takes_codeless v ha hslots, hslots]
      exact ⟨fun h => ⟨h, nofun⟩, fun h => h.1⟩
    · rw [LaneView.takes_code v ha hslots]
      exact and_congr_right fun _ => ⟨fun h _ => h, fun h => h hslots⟩
  · rw [if_neg ha, LaneView.takes_classB v b ((Bool.not_eq_true _).mp ha)]
    exact decide_eq_true_iff

/-- FLOW as it is evaluated behind a record just taken (R103). -/
theorem Lane.flowOf_taking (d : Lane) (l : LaneId) (now : Time) (b : RecordBody) :
    (d.taking l now b).flowOf =
      if d.set.high ≤ d.queue.records.length + 1 ∨ d.set.quota ≤ d.queue.held + b.slots then true
      else if d.queue.records.length + 1 ≤ d.set.low ∧ d.queue.held + b.slots + 2 ≤ d.set.quota then false
      else d.port.reasons.flow := by
  rw [Lane.flowOf, Lane.taking, List.length_append]
  rfl

/-- The queue behind a record just taken, and FLOW's report (R93, R136). -/
theorem Lane.FlowEvaluated.queue_taking {d e : Lane} {l : LaneId} {now : Time} {b : RecordBody}
    (h : (d.taking l now b).FlowEvaluated e l now) (hr : d.set.InRange) {flow : Bool} {reported : Prop}
    (hflow : flow = (d.taking l now b).flowOf)
    (hreported : reported ↔
      d.on = true ∧ flow ≠ d.port.reasons.flow ∧ flow ≠ d.liveOf .scannerHeld ∧ d.Reports .scannerHeld flow) :
    (¬reported → e.queue = (d.taking l now b).queue) ∧
      (reported → d.queue.records.length + 1 < 32 →
        e.queue = ((d.taking l now b).taking l now (.condition .scannerHeld flow)).queue) ∧
      (reported → 32 ≤ d.queue.records.length + 1 → e.queue = (d.taking l now b).losing.queue) := by
  subst hflow
  have hqueue := h.queue hr
  have hcount : (d.taking l now b).count = d.queue.records.length + 1 := List.length_append
  refine ⟨fun hnot => ?_, fun hyes hroom => ?_, fun hyes hfull => ?_⟩
  · exact hqueue.trans (if_neg (mt hreported.mpr hnot))
  · exact (hqueue.trans (if_pos (hreported.mp hyes))).trans (if_pos (hcount ▸ hroom))
  · exact (hqueue.trans (if_pos (hreported.mp hyes))).trans (if_neg (Nat.not_lt.mpr (hcount ▸ hfull)))

/-- Settles O45: the record joins the tail, FLOW adds what it reports, and a refused record leaves its loss alone. -/
theorem offeredRecordsAreTakenOrRefused : Obligations.OfferedRecordsAreTakenOrRefused := by
  unfold Obligations.OfferedRecordsAreTakenOrRefused
  intro v b room taken hroom htaken
  subst htaken
  rw [← v.takes_iff b] at hroom
  refine ⟨fun h => ?taken, fun h => ?refused⟩
  case refused =>
    have ht := (Bool.not_eq_true _).mp (mt hroom.mpr h)
    exact ⟨v.offer_refusedA b ht, v.offer_refusedB b ht⟩
  case taken =>
    have ht := hroom.mp h
    obtain ⟨-, hattn, hfree, hheld⟩ := v.offer_taken b ht
    have heval := v.offer_takes b ht
    obtain ⟨more, hrecords, hseq, hloss, hmore⟩ := (v.enqueue b).evalFlow_heldReported flowFuel rfl
    have hoffer : v.offer b = (v.enqueue b).evalFlow flowFuel := if_pos ht
    rw [← hoffer] at hrecords hseq hloss
    refine ⟨⟨more, ?records, hseq, hloss, hmore⟩, hheld, hfree, hattn, (v.offer_frame b).ln,
      fun hr flow reported hflow hreported => ?flow⟩
    case records =>
      rw [hrecords]
      exact List.append_assoc ..
    case flow =>
      rw [← v.ln.flowOf_taking v.id v.now b] at hflow
      obtain ⟨hquiet, htold, hfull⟩ := heval.queue_taking hr hflow hreported
      refine ⟨(heval.flow hr).trans hflow.symm, ?port, ?live, fun hnot => ?_, fun hyes hplace => ?_,
        fun hyes hnone => ?_⟩
      case port =>
        obtain ⟨x, hx, hport⟩ := heval.port hr
        rw [← hflow] at hx
        exact ⟨_, hx.carry rfl rfl rfl, hport⟩
      case live =>
        rw [hflow]
        exact heval.held hr
      · rw [hquiet hnot]
        exact ⟨rfl, rfl⟩
      · rw [htold hyes hplace]
        exact ⟨List.append_assoc .., rfl⟩
      · rw [hfull hyes hnone]
        exact ⟨rfl, rfl⟩

end Sys2Proof.Machine
end

section
/-!
PROOFS. A sample processed whole (R18, R22 to R25, R30, R35, R40), and the monitor's part in it (R132).
-/

namespace Sys2Proof.Machine

/-! ### The monitor and the chain's clock -/

theorem Lane.chainClocked_iff (d : Lane) : d.chainClocked = true ↔ d.power.state = .on := decide_eq_true_iff

theorem LaneView.handOver_eq (v : LaneView) (c : Condition) (live : Bool) :
    v.handOver c live =
      if v.ln.on = true ∧ v.ln.liveOf c ≠ live then
        if v.ln.modeOf c = .both ∨ (v.ln.modeOf c = .rise ∧ live = true) then
          (v.setLive c live).offer (.condition c live)
        else v.setLive c live
      else v := by
  have hreports : ((v.setLive c live).ln.modeOf c).reports live = true ↔ v.ln.Reports c live :=
    v.ln.reports_iff c live
  unfold LaneView.handOver
  simp only [Bool.and_eq_true, decide_eq_true_eq, hreports]

/-! ### Debouncing (R22, R23, R25) -/

theorem debounce_eq (attr : KeyAttr) (n : Nat) (amb raw : Bool) (c : KeyCell) :
    debounce attr n amb raw c =
      if attr = .unused then c
      else if amb = true ∧ c.down = false then { c with count := 0 }
      else if raw = c.down then { c with count := 0 }
      else if c.count + 1 < n then { c with count := c.count + 1 }
      else { c with down := !c.down, count := 0 } := by
  have hamb : (amb && !c.down) = true ↔ amb = true ∧ c.down = false := by rw [Bool.and_eq_true, Bool.not_eq_true']
  have hlast : (if n ≤ c.count + 1 then { c with down := !c.down, count := 0 } else { c with count := c.count + 1 }) =
      if c.count + 1 < n then { c with count := c.count + 1 } else { c with down := !c.down, count := 0 } := by
    by_cases h : c.count + 1 < n
    · rw [if_neg (Nat.not_le.mpr h), if_pos h]
    · rw [if_pos (Nat.not_lt.mp h), if_neg h]
  rw [debounce, hlast]
  simp only [hamb]

theorem debounce_pair (attr : KeyAttr) (n : Nat) (amb raw : Bool) (c : KeyCell) :
    ((debounce attr n amb raw c).down, (debounce attr n amb raw c).count) =
      if attr = .unused then (c.down, c.count)
      else if amb = true ∧ c.down = false then (false, 0)
      else if raw = c.down then (c.down, 0)
      else if c.count + 1 < n then (c.down, c.count + 1)
      else (!c.down, 0) := by
  rw [debounce_eq]
  split
  · rfl
  · split
    · next h => rw [h.2]
    · split
      · rfl
      · split <;> rfl

theorem Lane.flips_eq (d : Lane) (cells : Vector KeyCell 128) (down : Bool) :
    d.flips cells down =
      (List.finRange 128).filter fun p =>
        decide (d.keymap[p] = .normal ∨ d.keymap[p] = .repeating) && decide (d.keys.cells[p].down ≠ down) &&
          decide (cells[p].down = down) := by
  have hkey (a : KeyAttr) : a.isKey = decide (a = .normal ∨ a = .repeating) := by cases a <;> rfl
  have hne (a b : Bool) : (a != b) = decide (a ≠ b) := by cases a <;> cases b <;> rfl
  refine List.filter_congr fun p _ => ?_
  rw [hkey, hne]
  rfl

/-! ### The keylock (R35) -/

/-- In a list without repetition, one element alone that `f` maps. -/
theorem filterMap_eq_singleton {α β : Type} {f : α → Option β} {xs : List α} {a : α} {b : β}
    (hnodup : xs.Nodup) (ha : a ∈ xs) (hfa : f a = some b) (hone : ∀ x ∈ xs, f x ≠ none → x = a) :
    xs.filterMap f = [b] := by
  obtain ⟨front, back, rfl⟩ := List.append_of_mem ha
  obtain ⟨-, hback, hfront⟩ := List.nodup_append.mp hnodup
  have hnone (ys : List α) (hin : ∀ y ∈ ys, y ∈ front ++ a :: back) (hout : a ∉ ys) : ys.filterMap f = [] := by
    refine List.filterMap_eq_nil_iff.mpr fun y hy => ?_
    by_contra hne
    exact hout (hone y (hin y hy) hne ▸ hy)
  rw [List.filterMap_append, List.filterMap_cons_some hfa,
    hnone front (fun y hy => List.mem_append_left _ hy) (fun h => hfront a h a List.mem_cons_self rfl),
    hnone back (fun y hy => List.mem_append_right _ (List.mem_cons_of_mem _ hy)) (List.nodup_cons.mp hback).1]
  rfl

/-- Two elements that `f` maps. -/
theorem two_le_length_filterMap {α β : Type} {f : α → Option β} {xs : List α} {a c : α} (hne : a ≠ c)
    (ha : a ∈ xs) (hc : c ∈ xs) (hfa : (f a).isSome = true) (hfc : (f c).isSome = true) :
    2 ≤ (xs.filterMap f).length := by
  have hmapped (ys : List α) (h : c ∈ ys) : 1 ≤ (ys.filterMap f).length := by
    obtain ⟨b, hb⟩ := Option.isSome_iff_exists.mp hfc
    exact List.length_pos_of_mem (List.mem_filterMap.mpr ⟨c, h, hb⟩)
  obtain ⟨front, back, rfl⟩ := List.append_of_mem ha
  obtain ⟨b, hb⟩ := Option.isSome_iff_exists.mp hfa
  rw [List.filterMap_append, List.filterMap_cons_some hb, List.length_append, List.length_cons]
  obtain h | h := List.mem_append.mp hc
  · have := hmapped front h
    omega
  · have := hmapped back ((List.mem_cons.mp h).resolve_left hne.symm)
    omega

theorem KeyAttr.keylock?_eq_some {a : KeyAttr} {k : Keylock} : a.keylock? = some k ↔ a = .keylock k := by
  cases a <;> simp [KeyAttr.keylock?]

theorem KeyAttr.keylock?_ne_none {a : KeyAttr} : a.keylock? ≠ none ↔ ∃ k, a = .keylock k := by
  rw [Option.ne_none_iff_exists']
  exact exists_congr fun _ => KeyAttr.keylock?_eq_some

theorem Lane.noKeylock_iff (d : Lane) : d.noKeylock = true ↔ ∀ p : KeyPos, ∀ k, d.keymap[p] ≠ .keylock k := by
  rw [Lane.noKeylock, Vector.all_toList, Vector.all_eq_true]
  simp only [decide_eq_true_eq]
  constructor
  · intro h p k hk
    exact KeyAttr.keylock?_ne_none.mpr ⟨k, hk⟩ (h p.val p.isLt)
  · intro h i hi
    by_contra hne
    obtain ⟨k, hk⟩ := KeyAttr.keylock?_ne_none.mp hne
    exact h ⟨i, hi⟩ k hk

section

variable {d : Lane} {p q : KeyPos} {k j : Keylock}

theorem Lane.mem_down (d : Lane) (p : KeyPos) :
    p ∈ positions.filter (fun p => d.keys.cells[p].down) ↔ d.keys.cells[p].down = true := by
  rw [List.mem_filter]
  exact and_iff_right (List.mem_finRange p)

theorem Lane.noKeylock_false (hp : d.keymap[p] = .keylock k) : d.noKeylock = false :=
  (Bool.not_eq_true _).mp (mt d.noKeylock_iff.mp fun h => h p k hp)

theorem Lane.decodeKeylock_absent (h : ∀ p : KeyPos, ∀ k, d.keymap[p] ≠ .keylock k) :
    d.decodeKeylock = (.operate, false) := if_pos (d.noKeylock_iff.mpr h)

theorem Lane.decodeKeylock_up (hp : d.keymap[p] = .keylock k)
    (hup : ∀ p : KeyPos, ∀ k, d.keymap[p] = .keylock k → d.keys.cells[p].down = false) :
    d.decodeKeylock = (d.keys.keylock, false) := by
  have hnone : d.keylocksDown = [] := by
    refine List.filterMap_eq_nil_iff.mpr fun q hq => ?_
    by_contra hne
    obtain ⟨j, hj⟩ := KeyAttr.keylock?_ne_none.mp hne
    rw [d.mem_down, hup q j hj] at hq
    cases hq
  unfold Lane.decodeKeylock
  rw [Lane.noKeylock_false hp, hnone]
  rfl

theorem Lane.decodeKeylock_one (hp : d.keymap[p] = .keylock k) (hdown : d.keys.cells[p].down = true)
    (hone : ∀ q : KeyPos, ∀ j, d.keymap[q] = .keylock j → d.keys.cells[q].down = true → q = p) :
    d.decodeKeylock = (k, false) := by
  have hsingle : d.keylocksDown = [k] := by
    refine filterMap_eq_singleton ((List.nodup_finRange 128).filter _) ((d.mem_down p).mpr hdown)
      (KeyAttr.keylock?_eq_some.mpr hp) fun q hq hne => ?_
    obtain ⟨j, hj⟩ := KeyAttr.keylock?_ne_none.mp hne
    exact hone q j hj ((d.mem_down q).mp hq)
  unfold Lane.decodeKeylock
  rw [Lane.noKeylock_false hp, hsingle]
  rfl

theorem Lane.decodeKeylock_several (hne : p ≠ q) (hp : d.keymap[p] = .keylock k) (hq : d.keymap[q] = .keylock j)
    (hpdown : d.keys.cells[p].down = true) (hqdown : d.keys.cells[q].down = true) :
    d.decodeKeylock = (d.keys.keylock, true) := by
  have htwo : 2 ≤ d.keylocksDown.length :=
    two_le_length_filterMap hne ((d.mem_down p).mpr hpdown) ((d.mem_down q).mpr hqdown)
      (Option.isSome_iff_exists.mpr ⟨k, KeyAttr.keylock?_eq_some.mpr hp⟩)
      (Option.isSome_iff_exists.mpr ⟨j, KeyAttr.keylock?_eq_some.mpr hq⟩)
  unfold Lane.decodeKeylock
  rw [Lane.noKeylock_false hp]
  match hlist : d.keylocksDown, htwo with
  | _ :: _ :: _, _ => rfl

end

/-- The keylock and its fault on the lane `e`, by the keylock positions down on it and the keylock that `d` had. -/
def Lane.KeylockDecoded (d e : Lane) : Prop :=
  ((∀ p : KeyPos, ∀ k, d.keymap[p] ≠ .keylock k) →
    e.keys.keylock = .operate ∧ e.keys.keylockFault = false) ∧
  ((∃ p : KeyPos, ∃ k, d.keymap[p] = .keylock k) →
    (∀ p : KeyPos, ∀ k, d.keymap[p] = .keylock k → e.keys.cells[p].down = false) →
    e.keys.keylock = d.keys.keylock ∧ e.keys.keylockFault = false) ∧
  (∀ (p : KeyPos) (k : Keylock), d.keymap[p] = .keylock k → e.keys.cells[p].down = true →
    (∀ q : KeyPos, ∀ j, d.keymap[q] = .keylock j → e.keys.cells[q].down = true → q = p) →
    e.keys.keylock = k ∧ e.keys.keylockFault = false) ∧
  (∀ (p q : KeyPos) (k j : Keylock), p ≠ q → d.keymap[p] = .keylock k → d.keymap[q] = .keylock j →
    e.keys.cells[p].down = true → e.keys.cells[q].down = true →
    e.keys.keylock = d.keys.keylock ∧ e.keys.keylockFault = true)

/-- The decode on `up`, with the keymap and the keylock of `d` and the positions down of `e`. -/
theorem Lane.keylockDecoded {d up e : Lane} (hmap : up.keymap = d.keymap) (hold : up.keys.keylock = d.keys.keylock)
    (hdown : ∀ p : KeyPos, e.keys.cells[p].down = up.keys.cells[p].down)
    (hresult : up.decodeKeylock = (e.keys.keylock, e.keys.keylockFault)) : d.KeylockDecoded e := by
  have hfound {k : Keylock} {f : Bool} (h : up.decodeKeylock = (k, f)) :
      e.keys.keylock = k ∧ e.keys.keylockFault = f := Prod.mk.inj (hresult.symm.trans h)
  simp only [Lane.KeylockDecoded, ← hmap, ← hold, hdown]
  exact ⟨fun h => hfound (Lane.decodeKeylock_absent h),
    fun ⟨_, _, hp⟩ hreleased => hfound (Lane.decodeKeylock_up hp hreleased),
    fun _ _ hp hpdown hone => hfound (Lane.decodeKeylock_one hp hpdown hone),
    fun _ _ _ _ hne hp hq hpdown hqdown => hfound (Lane.decodeKeylock_several hne hp hq hpdown hqdown)⟩

/-- The keylock stage, its change and its record (R35, R36, R37). -/
theorem LaneView.keylockStage_eq (v : LaneView) {keylock : Keylock} {fault : Bool}
    (h : v.ln.decodeKeylock = (keylock, fault)) :
    v.keylockStage =
      if keylock = v.ln.keys.keylock then v.setKeys { v.ln.keys with keylockFault := fault }
      else
        LaneView.offer
          (v.setKeys
            { v.ln.keys with
              keylock := keylock, keylockFault := fault
              typematic := if keylock = .off then none else v.ln.keys.typematic })
          (.keylock keylock) := by
  unfold LaneView.keylockStage
  rw [h]
  dsimp only
  by_cases hsame : keylock = v.ln.keys.keylock
  · rw [if_pos hsame, if_pos hsame, hsame]
  · rw [if_neg hsame, if_neg hsame]
    by_cases hoff : keylock = .off
    · rw [if_pos hoff, if_pos hoff]
      rfl
    · rw [if_neg hoff, if_neg hoff]

/-! ### What the stages of a sample leave as it was -/

/-- From `v` to `w` nothing changed but what the stages of a sample change: the keys, the duplicate filter, the lane
queue's records, the scanner commands, the drawer, the live states and the counters. -/
structure LaneView.SampleFrame (v w : LaneView) : Prop where
  free : w.free = v.free
  alarms : w.alarms = v.alarms
  power : w.ln.power = v.ln.power
  cfg : w.ln.cfg = v.ln.cfg
  keymap : w.ln.keymap = v.ln.keymap
  set : w.ln.set = v.ln.set
  rx : w.ln.port.rx = v.ln.port.rx
  brk : w.ln.port.brk = v.ln.port.brk
  held : w.ln.queue.held = v.ln.queue.held
  reportTimer : w.ln.reportTimer = v.ln.reportTimer
  checker : w.ln.checker = v.ln.checker
  pins : w.ln.pins = v.ln.pins

/-- A record without a code leaves the pool and the slots held as they were. -/
theorem LaneView.offer_codeless (v : LaneView) {b : RecordBody} (hslots : b.slots = 0) :
    (v.offer b).free = v.free ∧ (v.offer b).ln.queue.held = v.ln.queue.held := by
  cases ht : v.takes b with
  | true =>
    obtain ⟨-, -, hfree, hheld⟩ := v.offer_taken b ht
    rw [hslots] at hfree hheld
    exact ⟨hfree, hheld⟩
  | false =>
    cases ha : b.classA with
    | true => rw [v.offer_refusedA b ht ha]; exact ⟨rfl, rfl⟩
    | false => rw [v.offer_refusedB b ht ha]; exact ⟨rfl, rfl⟩

namespace LaneView.SampleFrame

variable {u v : LaneView}

theorem refl (v : LaneView) : v.SampleFrame v := ⟨rfl, rfl, rfl, rfl, rfl, rfl, rfl, rfl, rfl, rfl, rfl, rfl⟩

theorem branch {c : Prop} [Decidable c] {w : LaneView} (hv : u.SampleFrame v) (hw : u.SampleFrame w) :
    u.SampleFrame (if c then v else w) := by
  split
  · exact hv
  · exact hw

theorem foldl {f : LaneView → KeyPos → LaneView}
    (hf : ∀ {x : LaneView} (p : KeyPos), u.SampleFrame x → u.SampleFrame (f x p)) (ps : List KeyPos)
    (h : u.SampleFrame v) : u.SampleFrame (ps.foldl f v) := by
  induction ps generalizing v with
  | nil => exact h
  | cons p ps ih => exact ih (hf p h)

theorem setKeys (h : u.SampleFrame v) (k : KeyScanner) : u.SampleFrame (v.setKeys k) := { h with }

theorem setFilter (h : u.SampleFrame v) (f : DupFilter) : u.SampleFrame (v.setFilter f) := { h with }

theorem setDrawer (h : u.SampleFrame v) (x : Drawer) : u.SampleFrame (v.setDrawer x) := { h with }

theorem setLive (h : u.SampleFrame v) (c : Condition) (live : Bool) : u.SampleFrame (v.setLive c live) := { h with }

theorem raise (h : u.SampleFrame v) (c : CounterName) : u.SampleFrame (v.raise c) := { h with }

theorem offer (h : u.SampleFrame v) {b : RecordBody} (hslots : b.slots = 0) : u.SampleFrame (v.offer b) := by
  have hframe := v.offer_frame b
  obtain ⟨hfree, hheld⟩ := v.offer_codeless hslots
  exact ⟨hfree.trans h.free, hframe.alarms.trans h.alarms, hframe.ln.power.trans h.power, hframe.ln.cfg.trans h.cfg,
    hframe.ln.keymap.trans h.keymap, hframe.ln.set.trans h.set, hframe.ln.rx.trans h.rx, hframe.ln.brk.trans h.brk,
    hheld.trans h.held, hframe.ln.reportTimer.trans h.reportTimer, hframe.ln.checker.trans h.checker,
    hframe.ln.pins.trans h.pins⟩

theorem handOver (h : u.SampleFrame v) (c : Condition) (live : Bool) : u.SampleFrame (v.handOver c live) := by
  obtain e | e | e := v.handOver_cases c live <;> rw [e]
  · exact h
  · exact h.setLive c live
  · exact (h.setLive c live).offer rfl

theorem closeCounters (h : u.SampleFrame v) (before : Counters) : u.SampleFrame (v.closeCounters before) :=
  .branch h (h.handOver _ _)

theorem localAttempt (h : u.SampleFrame v) : u.SampleFrame v.localAttempt :=
  .branch ((h.setDrawer _).offer rfl) (h.offer rfl)

theorem releaseKey (h : u.SampleFrame v) (p : KeyPos) : u.SampleFrame (v.releaseKey p) :=
  .branch ((h.setKeys _).offer rfl) (h.setKeys _)

theorem keylockStage (h : u.SampleFrame v) : u.SampleFrame v.keylockStage :=
  .branch (h.setKeys _) ((h.setKeys _).offer rfl)

theorem pressKey (h : u.SampleFrame v) (p : KeyPos) : u.SampleFrame (v.pressKey p) :=
  have hjoined := ((h.offer (b := .keyDown p v.ln.keys.keylock) rfl).setKeys _).setFilter .cleared
  .branch (h.setKeys _) (.branch (h.setKeys _) (.branch (.branch hjoined.localAttempt hjoined) ((h.setKeys _).raise _)))

theorem statusStage (h : u.SampleFrame v) : u.SampleFrame v.statusStage :=
  ((h.handOver _ _).handOver _ _).handOver _ _

end LaneView.SampleFrame

/-! ### What releases and presses leave of the keys -/

/-- From `k` to `m` the marks, the down list, the typematic timer and the rollover status apart, nothing changed. -/
structure KeyScanner.Remarked (k m : KeyScanner) : Prop where
  cells : ∀ p : KeyPos, m.cells[p].down = k.cells[p].down ∧ m.cells[p].count = k.cells[p].count
  keylock : m.keylock = k.keylock
  ghost : m.ghost = k.ghost
  keylockFault : m.keylockFault = k.keylockFault
  nextSample : m.nextSample = k.nextSample

theorem LaneView.localAttempt_keys (v : LaneView) : v.localAttempt.ln.keys = v.ln.keys :=
  (LaneView.Moves.localAttempt (rules := Vector.replicate 16 .reset) (T := Eq .drawer) (.refl (u := v)) rfl).keys_eq
    nofun

theorem LaneView.handOver_keys (v : LaneView) (c : Condition) (live : Bool) : (v.handOver c live).ln.keys = v.ln.keys :=
  (LaneView.Moves.handOver (rules := Vector.replicate 16 .reset) (T := fun _ => False) (.refl (u := v)) c live).keys_eq
    not_false

theorem LaneView.statusStage_eq (v : LaneView) :
    v.statusStage =
      ((v.handOver .ghost v.ln.keys.ghost).handOver .rollover v.ln.keys.rollover).handOver .keylockFault
        v.ln.keys.keylockFault := by
  unfold LaneView.statusStage
  simp only [LaneView.handOver_keys]

/-- The handing over of the status and the close leave the keys. -/
theorem LaneView.closeSample_keys (v : LaneView) (before : Counters) :
    (v.statusStage.closeCounters before).ln.keys = v.ln.keys :=
  (LaneView.Moves.closeCounters (rules := Vector.replicate 16 .reset) (T := fun _ => False)
    (.statusStage (.refl (u := v))) before).keys_eq not_false

namespace KeyScanner.Remarked

variable {k m : KeyScanner} {v : LaneView}

theorem refl (k : KeyScanner) : k.Remarked k := ⟨fun _ => ⟨rfl, rfl⟩, rfl, rfl, rfl, rfl⟩

theorem setMark (h : k.Remarked m) (p : KeyPos) (mark : KeyMark) : k.Remarked (m.setMark p mark) :=
  { h with
    cells := fun q =>
      ⟨(m.setMark_down p q mark).1.trans (h.cells q).1, (m.setMark_down p q mark).2.trans (h.cells q).2⟩ }

theorem releaseKey (h : k.Remarked v.ln.keys) (p : KeyPos) : k.Remarked (v.releaseKey p).ln.keys := by
  by_cases hp : p ∈ v.ln.keys.downList
  · rw [LaneView.releaseKey_listed hp, LaneView.offer_keys]
    exact { h with }
  · rw [show v.releaseKey p = v.setKeys (v.ln.keys.setMark p .none) from if_neg hp]
    exact h.setMark p .none

theorem keyTaken (h : k.Remarked v.ln.keys) (p : KeyPos) : k.Remarked (v.keyTaken p).ln.keys := by
  rw [LaneView.keyTaken_eq]
  split
  · rw [LaneView.localAttempt_keys]
    exact { h with }
  · exact { h with }

theorem pressKey (h : k.Remarked v.ln.keys) (p : KeyPos) : k.Remarked (v.pressKey p).ln.keys := by
  by_cases hoff : v.ln.keys.keylock = .off
  · rw [LaneView.pressKey_off hoff]
    exact h.setMark p .unreported
  · obtain hroom | hfull := Nat.lt_or_ge v.ln.keys.downList.length 6
    · obtain hcount | hqueue := Nat.lt_or_ge v.ln.count 28
      · rw [LaneView.pressKey_taken hoff hroom hcount]
        refine keyTaken ?_ p
        rwa [LaneView.offer_keys]
      · rw [LaneView.pressKey_refused hoff hroom hqueue]
        exact h.setMark p .unreported
    · rw [LaneView.pressKey_blocked hoff hfull]
      exact { h.setMark p .blocked with }

theorem foldl {f : LaneView → KeyPos → LaneView}
    (hf : ∀ {x : LaneView} (p : KeyPos), k.Remarked x.ln.keys → k.Remarked (f x p).ln.keys) (ps : List KeyPos)
    (h : k.Remarked v.ln.keys) : k.Remarked (ps.foldl f v).ln.keys := by
  induction ps generalizing v with
  | nil => exact h
  | cons p ps ih => exact ih (hf p h)

end KeyScanner.Remarked

/-! ### The stages of a sample (R18) -/

theorem KeyScanner.anyBlocked_eq (k : KeyScanner) :
    k.anyBlocked = decide (∃ p : KeyPos, k.cells[p].mark = .blocked) := by
  rw [Bool.eq_iff_iff, k.anyBlocked_iff, decide_eq_true_iff]

theorem Lane.sampledKeys_eq {d : Lane} {now : Time} {raw : BitVec 128} {closed : KeyPos → Bool}
    (h : d.cfg.rawDown raw = closed) :
    d.sampledKeys now raw =
      { d.keys with
        cells := d.debounced raw, ghost := ambiguous closed, nextSample := some (after now d.cfg.period) } := by
  subst h
  rfl

theorem Lane.sampledKeys_keylock (d : Lane) (now : Time) (raw : BitVec 128) :
    (d.sampledKeys now raw).keylock = d.keys.keylock := by
  unfold Lane.sampledKeys
  rfl

theorem LaneView.afterReleases_eq (v : LaneView) :
    v.afterReleases =
      v.setKeys
        { v.ln.keys with
          rollover := v.ln.keys.rollover && decide (∃ p : KeyPos, v.ln.keys.cells[p].mark = .blocked) } := by
  rw [LaneView.afterReleases, KeyScanner.anyBlocked_eq]

/-- The view after debouncing and the releases (R18 stages 1 to 3). -/
def LaneView.releaseStage (v : LaneView) (raw : BitVec 128) : LaneView :=
  (v.ln.flips (v.ln.debounced raw) false).foldl LaneView.releaseKey (v.setKeys (v.ln.sampledKeys v.now raw))

/-- The view with the fall of rollover too (R30). -/
def LaneView.upStage (v : LaneView) (raw : BitVec 128) : LaneView := (v.releaseStage raw).afterReleases

/-- The view after the keylock and the presses too (R18 stages 4 and 5). -/
def LaneView.pressStage (v : LaneView) (raw : BitVec 128) : LaneView :=
  (v.ln.flips (v.ln.debounced raw) true).foldl LaneView.pressKey (v.upStage raw).keylockStage

/-- The view after the hand-over of the status too (R18 stage 6). -/
def LaneView.endStage (v : LaneView) (raw : BitVec 128) : LaneView := (v.pressStage raw).statusStage

theorem LaneView.processSample_eq (v : LaneView) (raw : BitVec 128) :
    v.processSample raw = (v.endStage raw).closeCounters v.ln.counters := rfl

section

variable (v : LaneView) (raw : BitVec 128)

theorem LaneView.upStage_frame : v.SampleFrame (v.upStage raw) :=
  (((LaneView.SampleFrame.refl v).setKeys _).foldl (fun p h => h.releaseKey p) _).setKeys _

theorem LaneView.processSample_frame : v.SampleFrame (v.processSample raw) :=
  ((v.upStage_frame raw).keylockStage.foldl (fun p h => h.pressKey p) _).statusStage.closeCounters _

theorem LaneView.upStage_remarked : (v.ln.sampledKeys v.now raw).Remarked (v.upStage raw).ln.keys :=
  have hreleased : (v.ln.sampledKeys v.now raw).Remarked _ :=
    .foldl (v := v.setKeys (v.ln.sampledKeys v.now raw)) (fun p h => h.releaseKey p)
      (v.ln.flips (v.ln.debounced raw) false) (.refl _)
  { hreleased with }

variable {v raw} {keylock : Keylock} {fault : Bool}

/-- The keylock stage sets the keylock and its fault, and leaves the debounced state. -/
theorem LaneView.keylockStage_remarked (h : v.ln.decodeKeylock = (keylock, fault)) :
    KeyScanner.Remarked { v.ln.keys with keylock := keylock, keylockFault := fault } v.keylockStage.ln.keys := by
  rw [v.keylockStage_eq h]
  split
  · next hsame => exact ⟨fun _ => ⟨rfl, rfl⟩, hsame.symm, rfl, rfl, rfl⟩
  · rw [LaneView.offer_keys]
    exact ⟨fun _ => ⟨rfl, rfl⟩, rfl, rfl, rfl, rfl⟩

theorem LaneView.processSample_remarked (h : (v.upStage raw).ln.decodeKeylock = (keylock, fault)) :
    KeyScanner.Remarked { (v.upStage raw).ln.keys with keylock := keylock, keylockFault := fault }
      (v.processSample raw).ln.keys := by
  rw [v.processSample_eq, LaneView.endStage, LaneView.closeSample_keys]
  exact .foldl (fun p h => h.pressKey p) _ (LaneView.keylockStage_remarked h)

end

/-- The debounced state, the ghost status and the schedule after a sample (R18, R23, R25). -/
theorem LaneView.processSample_debounced (v : LaneView) {raw : BitVec 128} {closed : KeyPos → Bool}
    (h : v.ln.cfg.rawDown raw = closed) :
    (∀ p : KeyPos,
      ((v.processSample raw).ln.keys.cells[p].down, (v.processSample raw).ln.keys.cells[p].count) =
        if v.ln.keymap[p] = .unused then (v.ln.keys.cells[p].down, v.ln.keys.cells[p].count)
        else if ambiguous closed = true ∧ v.ln.keys.cells[p].down = false then (false, 0)
        else if closed p = v.ln.keys.cells[p].down then (v.ln.keys.cells[p].down, 0)
        else if v.ln.keys.cells[p].count + 1 < v.ln.cfg.debounce then
          (v.ln.keys.cells[p].down, v.ln.keys.cells[p].count + 1)
        else (!v.ln.keys.cells[p].down, 0)) ∧
    (v.processSample raw).ln.keys.ghost = ambiguous closed ∧
    (v.processSample raw).ln.keys.nextSample = some (after v.now v.ln.cfg.period) := by
  have hkeys := LaneView.processSample_remarked (v := v) (raw := raw) rfl
  have hup := v.upStage_remarked raw
  rw [Lane.sampledKeys_eq h] at hup
  refine ⟨fun p => ?_, hkeys.ghost.trans hup.ghost, hkeys.nextSample.trans hup.nextSample⟩
  obtain ⟨hkdown, hkcount⟩ := hkeys.cells p
  obtain ⟨hudown, hucount⟩ := hup.cells p
  rw [hkdown.trans hudown, hkcount.trans hucount, v.ln.debounced_cell, debounce_pair, h]

/-- The keylock after a sample (R35). -/
theorem LaneView.processSample_keylockDecoded (v : LaneView) (raw : BitVec 128) :
    v.ln.KeylockDecoded (v.processSample raw).ln := by
  have hkeys := LaneView.processSample_remarked (v := v) (raw := raw) rfl
  have hup := v.upStage_remarked raw
  exact Lane.keylockDecoded (v.upStage_frame raw).keymap (hup.keylock.trans (Lane.sampledKeys_keylock ..))
    (fun p => (hkeys.cells p).1) (Prod.ext hkeys.keylock.symm hkeys.keylockFault.symm)

/-- Settles O40: the stages of R18 one after the other, and what each leaves of the lane and its keys. -/
theorem samplesAreDebounced : Obligations.SamplesAreDebounced := by
  unfold Obligations.SamplesAreDebounced
  refine ⟨Lane.chainClocked_iff, fun v c live w hw => ?monitor, fun s l raw closed hs hon hdue hclosed => ?sample⟩
  case monitor =>
    subst hw
    exact v.handOver_eq c live
  case sample =>
    have hclosed : s.lanes[l].cfg.rawDown raw = closed := hclosed.symm
    obtain ⟨keylock, fault, hdecode⟩ : ∃ keylock fault,
        ((s.view l).upStage raw).ln.decodeKeylock = (keylock, fault) := ⟨_, _, rfl⟩
    have hheard : (s.view l).sampleArrival raw = (s.view l).processSample raw :=
      if_pos (Bool.and_eq_true_iff.mpr ⟨hon, hdue⟩)
    have hexec : exec (.sampleArrival l raw) s = _ := State.heard (f := fun v => v.sampleArrival raw) hs rfl
    rw [hheard] at hexec
    have hkeys := LaneView.processSample_remarked hdecode
    have hframe := (s.view l).processSample_frame raw
    refine ⟨?stages, _, hexec, State.put_quiet ⟨hframe.free, hframe.alarms⟩, ?rest⟩
    case stages =>
      refine ⟨s.lanes[l].debounced raw, s.lanes[l].flips (s.lanes[l].debounced raw),
        (s.view l).setKeys (s.lanes[l].sampledKeys s.timeBase raw), (s.view l).releaseStage raw,
        (s.view l).upStage raw, ((s.view l).upStage raw).keylockStage, (s.view l).pressStage raw,
        (s.view l).endStage raw, keylock, fault, fun p => ?cell, ?flipped, ?sampled, rfl, ?up,
        ?keyed, ?pressed, ?ended, fun t ht => ?keylock, ?exec⟩
      case cell =>
        rw [← hclosed, s.lanes[l].debounced_cell, debounce_eq]
      case flipped =>
        funext down
        exact s.lanes[l].flips_eq _ down
      case sampled => exact congrArg (s.view l).setKeys (Lane.sampledKeys_eq hclosed)
      case up => exact ((s.view l).releaseStage raw).afterReleases_eq
      case keyed => exact ((s.view l).upStage raw).keylockStage_eq hdecode
      case pressed => rw [LaneView.pressStage, State.view_ln]
      case ended => exact ((s.view l).pressStage raw).statusStage_eq
      case keylock =>
        rw [← Host.Outcome.next.inj (hexec.symm.trans ht), State.put_lanes_self]
        exact ⟨hkeys.keylock, hkeys.keylockFault⟩
      case exec =>
        rw [hexec, LaneView.processSample_eq]
        rfl
    case rest =>
      rw [State.put_lanes_self]
      obtain ⟨hcells, hghost, hnext⟩ := (s.view l).processSample_debounced hclosed
      obtain ⟨habsent, hreleased, hone, hseveral⟩ := (s.view l).processSample_keylockDecoded raw
      exact ⟨hcells, hghost, hnext, habsent, hreleased, hone, hseveral, hframe.power, hframe.cfg, hframe.keymap,
        hframe.set, hframe.rx, hframe.brk, hframe.held, hframe.reportTimer, hframe.checker, hframe.pins⟩

end Sys2Proof.Machine
end
